-- ==== Sys2Proof/Word.lean ====
section
/-! DEFINITION. The word types of the PFD and their plainest arithmetic (00_scope.md R5, R8, R9). -/

namespace Sys2Proof

/-- One byte of the frame buffer (10_state.md R21). -/
abbrev Byte := BitVec 8

/-- One command word on the CMD port: 64 bits, no byte order (30_encoding.md R70). -/
abbrev CommandWord := BitVec 64

/-- The width of ACC, DIN and IMM: 6 bytes (00_scope.md R5). -/
abbrev Word48 := BitVec 48

/-- `mask n` is 2^n − 1 (00_scope.md R9). -/
def mask (n : Nat) : Nat := 2 ^ n - 1

end Sys2Proof
end

