-- ==== Sys2Proof/Machine/State.lean ====
section
/-! DEFINITION. The state of the PFD (10_state.md R38, R48), its state after reset (70_reset_and_hazards.md R250)
and the reasons a step could stop: none (60_exceptions.md R220). -/

namespace Sys2Proof.Machine

/-- The codes of OPSTAT (60_exceptions.md R222). Codes 8 to 15 are never written and have no constructor
(93_implementation_defined.md section 2; DESIGN CHOICE, log entry 10, safe). -/
inductive Status where
  | ok
  | framing
  | unknownType
  | truncated
  | absent
  | badOperand
  | overflow
  | illegalOp
  deriving DecidableEq, Repr

/-- The codes of FSTAT.CLASS (10_state.md R28). -/
inductive FrameClass where
  | none
  | status
  | sensor
  | control
  deriving DecidableEq, Repr

/-- One interaction of the host with the PFD (10_state.md R45). -/
inductive PortOp where
  /-- CMD(w): issue one command word -/
  | cmd (w : CommandWord)
  /-- RDREG(a): read the register at a 5-bit address -/
  | rdreg (a : BitVec 5)
  /-- RDFB(i): read FB[i] -/
  | rdfb (i : BitVec 8)
  /-- RESET -/
  | reset
  deriving DecidableEq, Repr

/-- The bytes of FB that a command has written, by index: addresses strictly rising and below 256
(`Memory.wf` in Machine/Ops.lean). An unlisted index holds no byte that any command wrote: reading it gives the
free value of `Config.unspecifiedByte` (10_state.md R43; log entries 3 and 4). -/
abbrev Memory := List Host.Cell

/-- The whole state (10_state.md R38, R48). `port` and `draw` are the model's own fields, not the spec's. -/
structure State where
  /-- FB (R21) -/
  fb : Memory
  /-- FLEN, 0..256 (R22) -/
  flen : Fin 257
  /-- OPSTAT (R24) -/
  opstat : Status
  /-- FSTAT.FVALID (R26) -/
  fvalid : Bool
  /-- FSTAT.OVF (R23) -/
  ovf : Bool
  /-- FSTAT.HDRVLD (R27) -/
  hdrvld : Bool
  /-- FSTAT.CLASS (R28) -/
  cls : FrameClass
  /-- FSTAT.SUBKNOWN (R29) -/
  subknown : Bool
  /-- TYPE (R30) -/
  typ : Byte
  /-- SUBTYPE (R30) -/
  subtype : Byte
  /-- SEQ (R30) -/
  seq : Byte
  /-- ACC (R31) -/
  acc : BitVec 48
  /-- ACCST.ACC_VLD (R32) -/
  accVld : Bool
  /-- ACCST.ACC_DSEL (R32) -/
  accDsel : BitVec 4
  /-- NIB.RSSI (R33) -/
  rssi : BitVec 4
  /-- NIB.BATT (R33) -/
  batt : BitVec 4
  /-- NIB.NIB_VLD (R33) -/
  nibVld : Bool
  /-- TREG.TSIGN (R34) -/
  tsign : Bool
  /-- TREG.TMAG (R34) -/
  tmag : BitVec 15
  /-- TREG.TEMP, two's complement (R34) -/
  temp : BitVec 16
  /-- TREG.T_VLD (R34) -/
  tVld : Bool
  /-- DIN (R35) -/
  din : BitVec 48
  /-- The model's own: the host's interactions still to be made, the next one first (R45; log entry 1). -/
  port : List PortOp
  /-- The model's own: which draw of the unspecified bytes is in force (R43; log entry 3). -/
  draw : Nat
  deriving DecidableEq, Repr

/-- Why a step could stop the machine: nothing does. "No word stops the PFD, hangs it or leaves it without a
next state" (60_exceptions.md R220), so there is no constructor (log entry 9, safe). -/
inductive Fault where
  deriving DecidableEq, Repr

/-- Why a step could be refused. -/
inductive Refusal where
  /-- Raised by an arm of exec for a command without a meaning: no arm does (safe). -/
  | notModelled (mnemonic : String)
  deriving DecidableEq, Repr

/-- The state after RESET with nothing on the port: the Reset column of 10_state.md R39, and no byte of FB
written (70_reset_and_hazards.md R250). -/
def State.reset : State where
  fb := []
  flen := 0
  opstat := .ok
  fvalid := false
  ovf := false
  hdrvld := false
  cls := .none
  subknown := false
  typ := 0
  subtype := 0
  seq := 0
  acc := 0
  accVld := false
  accDsel := 0
  rssi := 0
  batt := 0
  nibVld := false
  tsign := false
  tmag := 0
  temp := 0
  tVld := false
  din := 0
  port := []
  draw := 0

end Sys2Proof.Machine
end

