-- ==== Sys2Proof/Machine/Flags.lean ====
section
/-! DEFINITION. The valid bits and their result groups (10_state.md R37), and the packed registers with the
codes of their fields (10_state.md R25, R28, R39; 60_exceptions.md R222). -/

namespace Sys2Proof.Machine

/-! ### Result groups: what a failure clears and a success latches -/

/-- ACC, ACC_DSEL, ACC_VLD ← 0 (10_state.md R37; 45_bitslice.md R201, 42_be_integer.md R141). -/
def clearAcc (s : State) : State := { s with acc := 0, accDsel := 0, accVld := false }

/-- RSSI, BATT, NIB_VLD ← 0 (10_state.md R37; 43_nibble.md R161). -/
def clearNib (s : State) : State := { s with rssi := 0, batt := 0, nibVld := false }

/-- TSIGN, TMAG, TEMP, T_VLD ← 0 (10_state.md R37; 41_temperature.md R121). -/
def clearTemp (s : State) : State := { s with tsign := false, tmag := 0, temp := 0, tVld := false }

/-- TYPE, SUBTYPE, SEQ, CLASS, SUBKNOWN, HDRVLD ← 0 (10_state.md R37; 44_dispatch.md R187). -/
def clearHeader (s : State) : State :=
  { s with typ := 0, subtype := 0, seq := 0, cls := .none, subknown := false, hdrvld := false }

/-- ACC, ACC_DSEL written and ACC_VLD ← 1 (10_state.md R31, R32). -/
def latchAcc (value : BitVec 48) (dsel : BitVec 4) (s : State) : State :=
  { s with acc := value, accDsel := dsel, accVld := true }

/-- RSSI ← b[7:4], BATT ← b[3:0], NIB_VLD ← 1 (20_memory.md R53, 43_nibble.md R161). -/
def latchNib (b : Byte) (s : State) : State :=
  { s with rssi := b.extractLsb' 4 4, batt := b.extractLsb' 0 4, nibVld := true }

/-- TSIGN, TMAG, TEMP written and T_VLD ← 1 (41_temperature.md R121). -/
def latchTemp (sign : Bool) (magnitude : BitVec 15) (value : BitVec 16) (s : State) : State :=
  { s with tsign := sign, tmag := magnitude, temp := value, tVld := true }

/-- The header group and FVALID of a DISPATCH that succeeds (44_dispatch.md R181, R184 to R186). -/
def latchHeader (typ subtype seq : Byte) (cls : FrameClass) (known : Bool) (s : State) : State :=
  { s with
    typ := typ, subtype := subtype, seq := seq, cls := cls, subknown := known, hdrvld := true, fvalid := true }

/-! ### Codes and packed registers -/

/-- The code of a status in OPSTAT[3:0] (60_exceptions.md R222). -/
def statusCode : Status → BitVec 4
  | .ok => 0
  | .framing => 1
  | .unknownType => 2
  | .truncated => 3
  | .absent => 4
  | .badOperand => 5
  | .overflow => 6
  | .illegalOp => 7

/-- The code of a class in FSTAT[4:3] (10_state.md R28). -/
def classCode : FrameClass → BitVec 2
  | .none => 0
  | .status => 1
  | .sensor => 2
  | .control => 3

/-- FSTAT: FVALID 0, OVF 1, HDRVLD 2, CLASS 4:3, SUBKNOWN 5, bits 7:6 read as 0 (10_state.md R25, R40). -/
def fstatWord (s : State) : BitVec 8 :=
  (0 : BitVec 2) ++ BitVec.ofBool s.subknown ++ classCode s.cls ++ BitVec.ofBool s.hdrvld ++
    BitVec.ofBool s.ovf ++ BitVec.ofBool s.fvalid

/-- ACCST: ACC_VLD 0, ACC_DSEL 4:1 (10_state.md R32, R39). -/
def accstWord (s : State) : BitVec 5 := s.accDsel ++ BitVec.ofBool s.accVld

/-- NIB: BATT 3:0, RSSI 7:4, NIB_VLD 8 (10_state.md R33, R39). -/
def nibWord (s : State) : BitVec 9 := BitVec.ofBool s.nibVld ++ s.rssi ++ s.batt

/-- TREG: TMAG 14:0, TSIGN 15, TEMP 31:16, T_VLD 32 (10_state.md R34, R39). -/
def tregWord (s : State) : BitVec 33 :=
  BitVec.ofBool s.tVld ++ s.temp ++ BitVec.ofBool s.tsign ++ s.tmag

end Sys2Proof.Machine
end

