-- ==== Sys2Proof/Config.lean ====
section
/-! DEFINITION. What an instance of the PFD fixes and the spec leaves open (00_scope.md R6; 92_eei_decisions.md
D14, D16, D17, D18), and the free value of 10_state.md R43. Every constant here is opaque: no proof can see its
value, so what is proved holds for every configuration. The tables with their fixed entries are in
Machine/Tables.lean. -/

namespace Sys2Proof

/-- A `REGISTRY` entry: the two flags of 00_scope.md R6. -/
structure RegistryEntry where
  /-- the Status family -/
  status : Bool
  /-- tagged "sensor" -/
  sensor : Bool
  deriving DecidableEq, Repr

/-- A `DIVTAB` entry: a positive rational, kept as written, `num / den` (00_scope.md R6, R7: the divisor
223666/1000 is not simplified). -/
structure Divisor where
  num : Nat
  den : Nat
  num_pos : 0 < num
  den_pos : 0 < den
  deriving DecidableEq, Repr

/-- DESIGN CHOICE (log entry 5), safe: `CLASS_20`, whether 0x20 (Security1) is tagged sensor; it is never
STATUS (90_conflicts.md C1). -/
opaque Config.class20Sensor : Bool

/-- DESIGN CHOICE (log entry 5), safe: `STATUS_CODE`, the code of the Status family or none
(92_eei_decisions.md D17). The three codes whose entries R6 fixes as present without `status` stay as R6 has
them whatever this constant is. -/
opaque Config.statusCode : Option Byte

/-- DESIGN CHOICE (log entry 5), safe: `REGISTRY_EXT`: for every other code, no entry, or an entry whose
`sensor` flag is the value given (92_eei_decisions.md D16). -/
opaque Config.registryExt : Byte → Option Bool

/-- DESIGN CHOICE (log entry 5), safe: `SUBTYPE_KNOWN_EXT`, for every pair but (0x55, 0x02)
(92_eei_decisions.md D18). -/
opaque Config.subtypeKnownExt : Byte → Byte → Bool

/-- DESIGN CHOICE (log entry 5), safe: `DIVTAB_EXT`, the divisors of DSEL 4 to 15
(92_eei_decisions.md D14); each is a positive rational or none. -/
opaque Config.divtabExt : BitVec 4 → Option Divisor

/-- DESIGN CHOICE (log entry 3), safe: the unspecified byte of 10_state.md R43 at an index, for the draw
given. Nothing constrains it. -/
opaque Config.unspecifiedByte (draw index : Nat) : Byte

end Sys2Proof
end

