-- ==== Sys2Proof/Machine/Ops.lean ====
section
/-! DEFINITION. The operations over the frame buffer, and how a command ends: `succeed` and `raise`, the shared
shapes of the reading and the writing commands (00_scope.md R10, R11; 20_memory.md R68; 60_exceptions.md R221,
R223). `raise` is what the PFD has in place of taking an exception: no trap is entered and none is returned from
(60_exceptions.md R224, R227). -/

namespace Sys2Proof.Machine

/-! ### The frame buffer as a canonical list of cells -/

/-- The byte some command wrote at index `a`, if any did. -/
def Memory.lookup : Memory → Nat → Option Byte
  | [], _ => none
  | (k, b) :: m, a => if a = k then some b else Memory.lookup m a

/-- FB[a] ← b, keeping the addresses rising. -/
def Memory.write : Memory → Nat → Byte → Memory
  | [], a, b => [(a, b)]
  | (k, c) :: m, a, b =>
    if a < k then (a, b) :: (k, c) :: m
    else if a = k then (a, b) :: m
    else (k, c) :: Memory.write m a b

/-- Addresses strictly rising from `lo` on, all indices of FB. -/
def Memory.wfFrom : Nat → Memory → Bool
  | _, [] => true
  | lo, (k, _) :: m => decide (lo ≤ k) && decide (k < 256) && Memory.wfFrom (k + 1) m

/-- The canonical form: addresses strictly rising and below 256 (10_state.md R21). No entry can equal what an
unlisted index reads as, for an unlisted index holds no value of its own. -/
def Memory.wf (m : Memory) : Bool := Memory.wfFrom 0 m

/-- FB[o], FB[o+1], ... ← the bytes of the list. -/
def Memory.writeBytes : Memory → Nat → List Byte → Memory
  | m, _, [] => m
  | m, o, b :: bs => Memory.writeBytes (Memory.write m o b) (o + 1) bs

/-- FB[a]: the byte written there, or the free value where no command has written one (10_state.md R43; log
entry 4). -/
def State.fbByte (s : State) (a : Nat) : Byte :=
  (Memory.lookup s.fb a).getD (Config.unspecifiedByte s.draw a)

/-- `BE(FB, o, n)`, the byte at the lowest offset the most significant (00_scope.md R10, 20_memory.md R51). -/
def State.beValue (s : State) : Nat → Nat → Nat
  | _, 0 => 0
  | o, n + 1 => (s.fbByte o).toNat <<< (8 * n) + State.beValue s (o + 1) n

/-- `MemRead(o, n)` (00_scope.md R11). -/
def memRead (s : State) (o n : Nat) : Nat := s.beValue o n

/-- `BYTES_BE(v, n)` (00_scope.md R10): byte k is `(v >> 8·(n−1−k)) & 0xFF`. -/
def bytesBE (v : Nat) : Nat → List Byte
  | 0 => []
  | n + 1 => BitVec.ofNat 8 (v >>> (8 * n)) :: bytesBE v n

/-- FB[a] ← b. -/
def State.setByte (s : State) (a : Nat) (b : Byte) : State :=
  { s with fb := Memory.write s.fb a b }

/-- `MemWrite(o, n, v)` (00_scope.md R11). -/
def memWrite (s : State) (o n v : Nat) : State :=
  { s with fb := Memory.writeBytes s.fb o (bytesBE v n) }

/-- The window [o, o + n) is inside the frame: o + n ≤ FLEN, without wrap (20_memory.md R68). -/
def insideFrame (s : State) (o n : Nat) : Bool := decide (o + n ≤ s.flen.val)

/-- FLEN + 1, never past 256 (10_state.md R22, 40_frame.md R103). -/
def nextLength (n : Fin 257) : Fin 257 := if h : n.val < 256 then ⟨n.val + 1, by omega⟩ else n

/-! ### How a command ends -/

/-- `raise E` (00_scope.md R11, 60_exceptions.md R221): OPSTAT ← code(E) and the command ends. The failure clears
of its path are made before it, in the state it is given. -/
def raise (e : Status) (s : State) : State := { s with opstat := e }

/-- The end of a command that succeeds: OPSTAT ← OK (40_frame.md R100). -/
def succeed (s : State) : State := { s with opstat := .ok }

/-- FVALID ← 0 (10_state.md R26). -/
def voidVerdict (s : State) : State := { s with fvalid := false }

/-- A command whose only failure is a field outside its row: NOP, CLR, LDIN (40_frame.md R101, R102, R104). -/
def controlCommand (rowOk : Bool) (effect : State → State) (s : State) : State :=
  if !rowOk then raise .badOperand s else succeed (effect s)

/-- The shape of SLICE, UNPACK, NSPLIT and TDEC: BAD_OPERAND for the word, then ABSENT with the group cleared, then
TRUNCATED with the group and FVALID cleared, else the result (60_exceptions.md R221 (a) to (c), R223). -/
def readCommand (rowOk absent inside : Bool) (clear latch : State → State) (s : State) : State :=
  if !rowOk then raise .badOperand s
  else if absent then raise .absent (clear s)
  else if !inside then raise .truncated (voidVerdict (clear s))
  else succeed (latch s)

/-- The shape of FINAL, TENC, PACK, NPACK and INSERT: BAD_OPERAND for the word, then for the value in DIN, then
TRUNCATED, each with nothing else written, else the store with FVALID ← 0 (60_exceptions.md R221 (a), (d),
R223, R225). -/
def writeCommand (rowOk valueOk inside : Bool) (store : State → State) (s : State) : State :=
  if !rowOk then raise .badOperand s
  else if !valueOk then raise .badOperand s
  else if !inside then raise .truncated s
  else succeed (voidVerdict (store s))

end Sys2Proof.Machine
end

