-- ==== Sys2Proof/Syntax.lean ====
section
/-! DEFINITION. The commands of the PFD as syntax: one constructor per row of spec/opcode_table.json. A
constructor carries EVERY field of its word, the reserved ones too (DEDUCED, log entry 6, safe): a field outside
its row of 30_encoding.md R76 makes the command BAD_OPERAND, which is part of the command's own rule. -/

namespace Sys2Proof

/-- The fields of a format D word below its opcode (30_encoding.md R73). -/
structure FieldsD where
  /-- bits 59:48, reserved, must be 0 -/
  rsvd : BitVec 12
  /-- bits 47:0, the immediate -/
  imm : BitVec 48
  deriving DecidableEq, Repr

/-- The fields of a format X word below its opcode (30_encoding.md R72). -/
structure FieldsX where
  /-- bits 59:52, the byte offset of the window -/
  off : BitVec 8
  /-- bits 51:49, the window's length in bytes -/
  nb : BitVec 3
  /-- bits 48:43, the lowest bit of the bit field -/
  lsb : BitVec 6
  /-- bits 42:37, the width of the bit field -/
  wid : BitVec 6
  /-- bit 36: the field is absent from this frame -/
  abs : Bool
  /-- bits 35:32, the divisor selector -/
  dsel : BitVec 4
  /-- bit 31: TAIL for NSPLIT and NPACK, NZ for TENC -/
  t : Bool
  /-- bits 30:0, reserved, must be 0 -/
  rsv : BitVec 31
  deriving DecidableEq, Repr

/-- A command word, read: its opcode is the constructor (30_encoding.md R71, R74, R75). -/
inductive Instr where
  | nop (f : FieldsD)
  | clr (f : FieldsD)
  | push (f : FieldsD)
  | ldin (f : FieldsD)
  | dispatch (f : FieldsX)
  | slice (f : FieldsX)
  | unpack (f : FieldsX)
  | nsplit (f : FieldsX)
  | tdec (f : FieldsX)
  | insert (f : FieldsX)
  | pack (f : FieldsX)
  | npack (f : FieldsX)
  | tenc (f : FieldsX)
  | final (f : FieldsX)
  /-- OPC 0xE with its 60 other bits -/
  | reservedE (rest : BitVec 60)
  /-- OPC 0xF with its 60 other bits -/
  | reservedF (rest : BitVec 60)
  deriving DecidableEq, Repr

end Sys2Proof
end

