-- ==== Sys2Proof/Machine/Operands.lean ====
section
/-! DEFINITION. Every operand form of the commands, and the values they compute from operands
(30_encoding.md R77 to R82). -/

namespace Sys2Proof.Machine

/-! ### Positions -/

/-- OFF as an unsigned offset, never scaled or sign-extended (30_encoding.md R77). -/
def windowOffset (f : FieldsX) : Nat := f.off.toNat

/-- NB as an unsigned count (30_encoding.md R77). -/
def windowLength (f : FieldsX) : Nat := f.nb.toNat

/-- The window [OFF, OFF + NB) is inside the frame (20_memory.md R68). -/
def windowInside (f : FieldsX) (s : State) : Bool := insideFrame s (windowOffset f) (windowLength f)

/-- The byte of NSPLIT and NPACK: FB[FLEN − 1] with T = 1 (TAIL), FB[OFF] with T = 0 (43_nibble.md R164). -/
def nibbleAddress (f : FieldsX) (s : State) : Nat :=
  if f.t then s.flen.val - 1 else windowOffset f

/-- That byte is inside the frame: FLEN ≥ 1 with T = 1, OFF + 1 ≤ FLEN with T = 0 (43_nibble.md R164). -/
def nibbleInside (f : FieldsX) (s : State) : Bool :=
  if f.t then decide (1 ≤ s.flen.val) else decide (windowOffset f + 1 ≤ s.flen.val)

/-! ### Immediates and DIN -/

/-- IMM[7:0], the byte pushed (30_encoding.md R82). -/
def pushByte (f : FieldsD) : Byte := f.imm.extractLsb' 0 8

/-- DIN as an unsigned number, to every reader but TENC (40_frame.md R104). -/
def dinValue (s : State) : Nat := s.din.toNat

/-- `sext_48(DIN)`, tenths (41_temperature.md R123). -/
def dinSigned (s : State) : Int := s.din.toInt

/-! ### Bit fields -/

/-- `(v >> LSB) & mask(WID)` (45_bitslice.md R201). -/
def sliceValue (f : FieldsX) (v : Nat) : Nat := (v >>> f.lsb.toNat) &&& mask f.wid.toNat

/-- `(v & ~m) | (d << LSB)` with `m = mask(WID) << LSB` and `~m` at 8·NB bits (45_bitslice.md R202). -/
def insertValue (f : FieldsX) (v d : Nat) : Nat :=
  (v &&& (mask (8 * f.nb.toNat) ^^^ (mask f.wid.toNat <<< f.lsb.toNat))) ||| (d <<< f.lsb.toNat)

/-! ### Nibbles -/

/-- `(DIN[7:4] << 4) | DIN[3:0]` (43_nibble.md R162). -/
def packNibbles (d : BitVec 48) : Byte := d.extractLsb' 4 4 ++ d.extractLsb' 0 4

/-! ### Temperature -/

/-- `hi[7]`, the sign flag (41_temperature.md R121). -/
def tempSign (hi : Byte) : Bool := hi.getLsbD 7

/-- `(hi & 0x7F) << 8 | lo`, 15 bits (41_temperature.md R121). -/
def tempMagnitude (hi lo : Byte) : BitVec 15 :=
  ((hi &&& 0x7F).setWidth 15 <<< 8) ||| lo.setWidth 15

/-- The sign applied after masking, as a 16-bit two's complement pattern (41_temperature.md R121). -/
def tempValue (sign : Bool) (magnitude : BitVec 15) : BitVec 16 :=
  if sign then -(magnitude.setWidth 16) else magnitude.setWidth 16

/-- v in −32767..32767, and 0 when NZ asks for negative zero (41_temperature.md R123). -/
def tempEncodable (v : Int) (nz : Bool) : Bool :=
  decide (-32767 ≤ v) && decide (v ≤ 32767) && (!nz || decide (v = 0))

/-- `(s << 7) | (m >> 8)` with s the sign of v, or 1 with NZ, and m = |v| (41_temperature.md R123). -/
def tempHighByte (v : Int) (nz : Bool) : Byte :=
  let sign : Nat := if decide (v < 0) || nz then 1 else 0
  BitVec.ofNat 8 ((sign <<< 7) ||| (v.natAbs >>> 8))

/-- `m & 0xFF` (41_temperature.md R123). -/
def tempLowByte (v : Int) : Byte := BitVec.ofNat 8 (v.natAbs &&& 0xFF)

end Sys2Proof.Machine
end

