-- ==== Sys2Proof/Machine/Tables.lean ====
section
/-! DEFINITION. The configuration tables `REGISTRY`, `SUBTYPE_KNOWN` and `DIVTAB` (00_scope.md R6): their fixed
entries, and the opaque constants of Config everywhere else. They are no state (10_state.md R36). -/

namespace Sys2Proof.Machine

/-- `REGISTRY` (00_scope.md R6, 44_dispatch.md R183, R185): 0x10 Lighting1 is control, 0x55 Rain is sensor, 0x20
Security1 is present with the tag `CLASS_20`. Every other code is configuration, and at most one,
`STATUS_CODE`, has `status`; no entry has both flags (DEDUCED, log entry 19, safe). -/
def registry (code : Byte) : Option RegistryEntry :=
  if code = 0x10 then some { status := false, sensor := false }
  else if code = 0x55 then some { status := false, sensor := true }
  else if code = 0x20 then some { status := false, sensor := Config.class20Sensor }
  else if Config.statusCode = some code then some { status := true, sensor := false }
  else (Config.registryExt code).map fun sensor => { status := false, sensor := sensor }

/-- `SUBTYPE_KNOWN` (00_scope.md R6, 44_dispatch.md R184): (0x55, 0x02) is PCR800; every other pair is
configuration. -/
def subtypeKnown (typeByte subtypeByte : Byte) : Bool :=
  if typeByte = 0x55 ∧ subtypeByte = 0x02 then true
  else Config.subtypeKnownExt typeByte subtypeByte

/-- `DIVTAB` (00_scope.md R6, R7): 1, 10, 100 and the exact decimal 223666/1000; DSEL 4 to 15 are configuration. -/
def divtab (dsel : BitVec 4) : Option Divisor :=
  match dsel.toNat with
  | 0 => some { num := 1, den := 1, num_pos := by decide, den_pos := by decide }
  | 1 => some { num := 10, den := 1, num_pos := by decide, den_pos := by decide }
  | 2 => some { num := 100, den := 1, num_pos := by decide, den_pos := by decide }
  | 3 => some { num := 223666, den := 1000, num_pos := by decide, den_pos := by decide }
  | _ => Config.divtabExt dsel

/-- The rational a `DIVTAB` entry stands for (00_scope.md R6, R13). -/
def divisorValue (d : Divisor) : Rat := (d.num : Rat) / (d.den : Rat)

end Sys2Proof.Machine
end

