-- ==== Sys2Proof/Machine/Rows.lean ====
section
/-! DEFINITION. The field constraints of 30_encoding.md R76, one check per row. They read the word's fields and
`DIVTAB` only, never the state. A field outside its row is BAD_OPERAND (60_exceptions.md R222). -/

namespace Sys2Proof.Machine

/-- LSB = 0 and WID = 0 (30_encoding.md R76, the rows without a bit field). -/
def noBitField (f : FieldsX) : Bool := decide (f.lsb = 0) && decide (f.wid = 0)

/-- NB in 1..6 (30_encoding.md R76, R77: 0 and 7 are BAD_OPERAND for every command). -/
def windowCount (f : FieldsX) : Bool := decide (1 ≤ f.nb.toNat) && decide (f.nb.toNat ≤ 6)

/-- WID in 1..48 and LSB + WID ≤ 8·NB (30_encoding.md R76, R78). -/
def bitFieldFits (f : FieldsX) : Bool :=
  decide (1 ≤ f.wid.toNat) && decide (f.wid.toNat ≤ 48) &&
    decide (f.lsb.toNat + f.wid.toNat ≤ 8 * f.nb.toNat)

/-- OFF is any when T = 0 and 0 when T = 1 (30_encoding.md R76, R81). -/
def tailOffset (f : FieldsX) : Bool := !f.t || decide (f.off = 0)

/-- Every field 0 (30_encoding.md R76, rows DISPATCH and FINAL). -/
def allZeroX (f : FieldsX) : Bool :=
  decide (f.off = 0) && decide (f.nb = 0) && noBitField f && !f.abs && decide (f.dsel = 0) && !f.t &&
    decide (f.rsv = 0)

/-- RSVD = 0 and IMM = 0 (30_encoding.md R76, rows NOP and CLR). -/
def allZeroD (f : FieldsD) : Bool := decide (f.rsvd = 0) && decide (f.imm = 0)

/-- Row NOP of 30_encoding.md R76. -/
def rowNop (f : FieldsD) : Bool := allZeroD f

/-- Row CLR of 30_encoding.md R76. -/
def rowClr (f : FieldsD) : Bool := allZeroD f

/-- Row PUSH of 30_encoding.md R76: IMM[47:8] = 0. -/
def rowPush (f : FieldsD) : Bool := decide (f.rsvd = 0) && decide (f.imm.extractLsb' 8 40 = 0)

/-- Row LDIN of 30_encoding.md R76: any IMM. -/
def rowLdin (f : FieldsD) : Bool := decide (f.rsvd = 0)

/-- Row DISPATCH of 30_encoding.md R76. -/
def rowDispatch (f : FieldsX) : Bool := allZeroX f

/-- Row FINAL of 30_encoding.md R76. -/
def rowFinal (f : FieldsX) : Bool := allZeroX f

/-- Row SLICE of 30_encoding.md R76. -/
def rowSlice (f : FieldsX) : Bool :=
  windowCount f && bitFieldFits f && decide (f.dsel = 0) && !f.t && decide (f.rsv = 0)

/-- Row UNPACK of 30_encoding.md R76: DSEL names a present `DIVTAB` entry (R80; log entry 18). -/
def rowUnpack (f : FieldsX) : Bool :=
  windowCount f && noBitField f && !f.t && decide (f.rsv = 0) && (divtab f.dsel).isSome

/-- Row NSPLIT of 30_encoding.md R76. -/
def rowNsplit (f : FieldsX) : Bool :=
  decide (f.nb = 1) && noBitField f && tailOffset f && decide (f.dsel = 0) && decide (f.rsv = 0)

/-- Row TDEC of 30_encoding.md R76. -/
def rowTdec (f : FieldsX) : Bool :=
  decide (f.nb = 2) && noBitField f && decide (f.dsel = 0) && !f.t && decide (f.rsv = 0)

/-- Row INSERT of 30_encoding.md R76. -/
def rowInsert (f : FieldsX) : Bool :=
  windowCount f && bitFieldFits f && !f.abs && decide (f.dsel = 0) && !f.t && decide (f.rsv = 0)

/-- Row PACK of 30_encoding.md R76. -/
def rowPack (f : FieldsX) : Bool :=
  windowCount f && noBitField f && !f.abs && decide (f.dsel = 0) && !f.t && decide (f.rsv = 0)

/-- Row NPACK of 30_encoding.md R76. -/
def rowNpack (f : FieldsX) : Bool :=
  decide (f.nb = 1) && noBitField f && tailOffset f && !f.abs && decide (f.dsel = 0) && decide (f.rsv = 0)

/-- Row TENC of 30_encoding.md R76: T is NZ, any. -/
def rowTenc (f : FieldsX) : Bool :=
  decide (f.nb = 2) && noBitField f && !f.abs && decide (f.dsel = 0) && decide (f.rsv = 0)

end Sys2Proof.Machine
end

