-- ==== Sys2Proof/Machine/BeInteger.lean ====
section
/-! DEFINITION. The big-endian integer unpacker and packer: UNPACK, PACK (42_be_integer.md). -/

namespace Sys2Proof.Machine

/-- The result of UNPACK: the window's value zero-extended to 48 bits, and its divisor selector
(42_be_integer.md R141). -/
def latchInteger (f : FieldsX) (s : State) : State :=
  latchAcc (BitVec.ofNat 48 (memRead s (windowOffset f) (windowLength f))) f.dsel s

/-- UNPACK (42_be_integer.md R141). -/
def execUnpack (f : FieldsX) (s : State) : Host.Outcome State Fault Refusal :=
  .next (readCommand (rowUnpack f) f.abs (windowInside f s) clearAcc (latchInteger f) s)

/-- The store of PACK (42_be_integer.md R143). -/
def storeInteger (f : FieldsX) (s : State) : State :=
  memWrite s (windowOffset f) (windowLength f) (dinValue s)

/-- PACK (42_be_integer.md R143): DIN ≥ 2^(8·NB) is BAD_OPERAND. -/
def execPack (f : FieldsX) (s : State) : Host.Outcome State Fault Refusal :=
  .next (writeCommand (rowPack f) (decide (dinValue s < 2 ^ (8 * windowLength f))) (windowInside f s)
    (storeInteger f) s)

end Sys2Proof.Machine
end

