-- ==== Sys2Proof/Machine/BitSlice.lean ====
section
/-! DEFINITION. The packed-field bit-slice decoder and inserter: SLICE, INSERT (45_bitslice.md). -/

namespace Sys2Proof.Machine

/-- The result of SLICE: the field, zero-extended to 48 bits, and ACC_DSEL = 0 (45_bitslice.md R201). -/
def latchSlice (f : FieldsX) (s : State) : State :=
  latchAcc (BitVec.ofNat 48 (sliceValue f (memRead s (windowOffset f) (windowLength f)))) 0 s

/-- SLICE (45_bitslice.md R201). -/
def execSlice (f : FieldsX) (s : State) : Host.Outcome State Fault Refusal :=
  .next (readCommand (rowSlice f) f.abs (windowInside f s) clearAcc (latchSlice f) s)

/-- The store of INSERT: read, modify, write of the window (45_bitslice.md R202). -/
def storeField (f : FieldsX) (s : State) : State :=
  memWrite s (windowOffset f) (windowLength f)
    (insertValue f (memRead s (windowOffset f) (windowLength f)) (dinValue s))

/-- INSERT (45_bitslice.md R202): DIN ≥ 2^WID is BAD_OPERAND. -/
def execInsert (f : FieldsX) (s : State) : Host.Outcome State Fault Refusal :=
  .next (writeCommand (rowInsert f) (decide (dinValue s < 2 ^ f.wid.toNat)) (windowInside f s) (storeField f) s)

end Sys2Proof.Machine
end

