-- ==== Sys2Proof/Machine/Frame.lean ====
section
/-! DEFINITION. Frame loading and control: NOP, CLR, PUSH, LDIN, FINAL (40_frame.md). -/

namespace Sys2Proof.Machine

/-- NOP (40_frame.md R101). -/
def execNop (f : FieldsD) (s : State) : Host.Outcome State Fault Refusal :=
  .next (controlCommand (rowNop f) id s)

/-- Every register ← its Reset value; FB is not written (40_frame.md R102, 70_reset_and_hazards.md R251; log entry
11). -/
def clearRegisters (s : State) : State :=
  { State.reset with fb := s.fb, port := s.port, draw := s.draw }

/-- CLR (40_frame.md R102). -/
def execClr (f : FieldsD) (s : State) : Host.Outcome State Fault Refusal :=
  .next (controlCommand (rowClr f) clearRegisters s)

/-- FB[FLEN] ← b and FLEN ← FLEN + 1 (40_frame.md R103). -/
def appendByte (b : Byte) (s : State) : State :=
  { s.setByte s.flen.val b with flen := nextLength s.flen }

/-- OVF ← 1 (10_state.md R23, 40_frame.md R103). -/
def setOverflow (s : State) : State := { s with ovf := true }

/-- PUSH (40_frame.md R103): OVERFLOW is checked after BAD_OPERAND. -/
def execPush (f : FieldsD) (s : State) : Host.Outcome State Fault Refusal :=
  .next (
    if !rowPush f then raise .badOperand s
    else if s.flen.val = 256 then raise .overflow (voidVerdict (setOverflow s))
    else succeed (voidVerdict (appendByte (pushByte f) s)))

/-- DIN ← v (10_state.md R35). -/
def loadDin (v : BitVec 48) (s : State) : State := { s with din := v }

/-- LDIN (40_frame.md R104). -/
def execLdin (f : FieldsD) (s : State) : Host.Outcome State Fault Refusal :=
  .next (controlCommand (rowLdin f) (loadDin f.imm) s)

/-- FLEN − 1 as a byte: 0..255, for FLEN ≤ 256 (40_frame.md R105). -/
def lengthByte (s : State) : Byte := BitVec.ofNat 8 (s.flen.val - 1)

/-- FINAL (40_frame.md R105): TRUNCATED when FLEN = 0. -/
def execFinal (f : FieldsX) (s : State) : Host.Outcome State Fault Refusal :=
  .next (writeCommand (rowFinal f) true (insideFrame s 0 1) (fun s => s.setByte 0 (lengthByte s)) s)

end Sys2Proof.Machine
end

