-- ==== Sys2Proof/Machine/FrameType.lean ====
section
/-! DEFINITION. The frame-type dispatcher: DISPATCH (44_dispatch.md). -/

namespace Sys2Proof.Machine

/-- `fail(c)` of DISPATCH: the header group and FVALID ← 0, then OPSTAT ← c (44_dispatch.md R187). -/
def dispatchFail (c : Status) (s : State) : State := raise c (voidVerdict (clearHeader s))

/-- The framing check fails: OVF = 1, FLEN < 2, or FB[0] + 1 ≠ FLEN; FB[0] is read only when FLEN ≥ 2
(44_dispatch.md R182). -/
def framingBad (s : State) : Bool :=
  if s.ovf || decide (s.flen.val < 2) then true else decide ((s.fbByte 0).toNat + 1 ≠ s.flen.val)

/-- CLASS of a registry entry: STATUS, else SENSOR, else CONTROL (44_dispatch.md R185). -/
def classOf (e : RegistryEntry) : FrameClass :=
  if e.status then .status else if e.sensor then .sensor else .control

/-- Header capture and classification (44_dispatch.md R184 to R186). -/
def captureHeader (e : RegistryEntry) (s : State) : State :=
  latchHeader (s.fbByte 1) (s.fbByte 2) (s.fbByte 3) (classOf e) (subtypeKnown (s.fbByte 1) (s.fbByte 2)) s

/-- DISPATCH (44_dispatch.md R181). -/
def execDispatch (f : FieldsX) (s : State) : Host.Outcome State Fault Refusal :=
  .next (
    if !rowDispatch f then raise .badOperand s
    else if framingBad s then dispatchFail .framing s
    else
      match registry (s.fbByte 1) with
      | none => dispatchFail .unknownType s
      | some e =>
        if s.flen.val < 4 then dispatchFail .truncated s else succeed (captureHeader e s))

end Sys2Proof.Machine
end

