-- ==== Sys2Proof/Machine/Nibble.lean ====
section
/-! DEFINITION. The RSSI/battery nibble multiplexer: NSPLIT, NPACK (43_nibble.md). -/

namespace Sys2Proof.Machine

/-- NSPLIT (43_nibble.md R161). -/
def execNsplit (f : FieldsX) (s : State) : Host.Outcome State Fault Refusal :=
  .next (readCommand (rowNsplit f) f.abs (nibbleInside f s) clearNib
    (fun s => latchNib (s.fbByte (nibbleAddress f s)) s) s)

/-- NPACK (43_nibble.md R162): DIN ≥ 2^8 is BAD_OPERAND. -/
def execNpack (f : FieldsX) (s : State) : Host.Outcome State Fault Refusal :=
  .next (writeCommand (rowNpack f) (decide (dinValue s < 2 ^ 8)) (nibbleInside f s)
    (fun s => s.setByte (nibbleAddress f s) (packNibbles s.din)) s)

end Sys2Proof.Machine
end

