-- ==== Sys2Proof/Machine/Reserved.lean ====
section
/-! DEFINITION. The reserved opcodes (30_encoding.md R75): OPSTAT ← ILLEGAL_OP and nothing else. -/

namespace Sys2Proof.Machine

/-- OPC = 0xE, whatever the other bits (30_encoding.md R75). -/
def execReservedE (_rest : BitVec 60) (s : State) : Host.Outcome State Fault Refusal :=
  .next (raise .illegalOp s)

/-- OPC = 0xF, whatever the other bits (30_encoding.md R75). -/
def execReservedF (_rest : BitVec 60) (s : State) : Host.Outcome State Fault Refusal :=
  .next (raise .illegalOp s)

end Sys2Proof.Machine
end

