-- ==== Sys2Proof/Machine/Temperature.lean ====
section
/-! DEFINITION. The temperature sign-magnitude converter: TDEC, TENC (41_temperature.md). -/

namespace Sys2Proof.Machine

/-- The result of TDEC from the high and the low byte (41_temperature.md R121, 20_memory.md R52). -/
def latchTemperature (hi lo : Byte) (s : State) : State :=
  latchTemp (tempSign hi) (tempMagnitude hi lo) (tempValue (tempSign hi) (tempMagnitude hi lo)) s

/-- TDEC (41_temperature.md R121). -/
def execTdec (f : FieldsX) (s : State) : Host.Outcome State Fault Refusal :=
  .next (readCommand (rowTdec f) f.abs (insideFrame s (windowOffset f) 2) clearTemp
    (fun s => latchTemperature (s.fbByte (windowOffset f)) (s.fbByte (windowOffset f + 1)) s) s)

/-- The store of TENC: the high byte, then the low byte (41_temperature.md R123). -/
def storeTemperature (f : FieldsX) (s : State) : State :=
  (s.setByte (windowOffset f) (tempHighByte (dinSigned s) f.t)).setByte (windowOffset f + 1)
    (tempLowByte (dinSigned s))

/-- TENC (41_temperature.md R123). -/
def execTenc (f : FieldsX) (s : State) : Host.Outcome State Fault Refusal :=
  .next (writeCommand (rowTenc f) (tempEncodable (dinSigned s) f.t) (insideFrame s (windowOffset f) 2)
    (storeTemperature f) s)

end Sys2Proof.Machine
end

