-- ==== Sys2Proof/Machine/Dispatch.lean ====
section
/-! DEFINITION. One arm per constructor of Instr, in the order of spec/opcode_table.json. -/

namespace Sys2Proof.Machine

def exec (i : Instr) (s : State) : Host.Outcome State Fault Refusal :=
  match i with
  | .nop f => Sys2Proof.Machine.execNop f s
  | .clr f => Sys2Proof.Machine.execClr f s
  | .push f => Sys2Proof.Machine.execPush f s
  | .ldin f => Sys2Proof.Machine.execLdin f s
  | .dispatch f => Sys2Proof.Machine.execDispatch f s
  | .slice f => Sys2Proof.Machine.execSlice f s
  | .unpack f => Sys2Proof.Machine.execUnpack f s
  | .nsplit f => Sys2Proof.Machine.execNsplit f s
  | .tdec f => Sys2Proof.Machine.execTdec f s
  | .insert f => Sys2Proof.Machine.execInsert f s
  | .pack f => Sys2Proof.Machine.execPack f s
  | .npack f => Sys2Proof.Machine.execNpack f s
  | .tenc f => Sys2Proof.Machine.execTenc f s
  | .final f => Sys2Proof.Machine.execFinal f s
  | .reservedE rest => Sys2Proof.Machine.execReservedE rest s
  | .reservedF rest => Sys2Proof.Machine.execReservedF rest s

end Sys2Proof.Machine
end

