-- ==== Sys2Proof/WellFormed.lean ====
section
/-! DEFINITION. Which commands are well formed: every field within its row of 30_encoding.md R76. A reserved
opcode's row has no constraint ("any other bits", opcode_table.json). -/

namespace Sys2Proof

/-- The word is within its row of 30_encoding.md R76 (R83: else it is BAD_OPERAND). -/
def Instr.wellFormed : Instr → Bool
  | .nop f => Machine.rowNop f
  | .clr f => Machine.rowClr f
  | .push f => Machine.rowPush f
  | .ldin f => Machine.rowLdin f
  | .dispatch f => Machine.rowDispatch f
  | .slice f => Machine.rowSlice f
  | .unpack f => Machine.rowUnpack f
  | .nsplit f => Machine.rowNsplit f
  | .tdec f => Machine.rowTdec f
  | .insert f => Machine.rowInsert f
  | .pack f => Machine.rowPack f
  | .npack f => Machine.rowNpack f
  | .tenc f => Machine.rowTenc f
  | .final f => Machine.rowFinal f
  | .reservedE _ => true
  | .reservedF _ => true

/-- The opcode is 0xE or 0xF and spells no command (30_encoding.md R75). -/
def Instr.isReserved : Instr → Bool
  | .reservedE _ | .reservedF _ => true
  | .nop _ | .clr _ | .push _ | .ldin _ | .dispatch _ | .slice _ | .unpack _ | .nsplit _ | .tdec _
  | .insert _ | .pack _ | .npack _ | .tenc _ | .final _ => false

end Sys2Proof
end

