-- ==== Sys2Proof/Decode.lean ====
section
/-! DEFINITION. The decoder, total on every 64-bit word (30_encoding.md R87), and the encoder, both written from
the field tables of 30_encoding.md R72, R73, R74. -/

namespace Sys2Proof

/-- The fields of a format D word (30_encoding.md R73). -/
def readFieldsD (w : CommandWord) : FieldsD where
  rsvd := w.extractLsb' 48 12
  imm := w.extractLsb' 0 48

/-- The fields of a format X word (30_encoding.md R72). -/
def readFieldsX (w : CommandWord) : FieldsX where
  off := w.extractLsb' 52 8
  nb := w.extractLsb' 49 3
  lsb := w.extractLsb' 43 6
  wid := w.extractLsb' 37 6
  abs := w.getLsbD 36
  dsel := w.extractLsb' 32 4
  t := w.getLsbD 31
  rsv := w.extractLsb' 0 31

/-- `OPC = w[63:60]` (30_encoding.md R71). -/
def readOpcode (w : CommandWord) : BitVec 4 := w.extractLsb' 60 4

/-- The command a word spells, its fields as they stand in the word (30_encoding.md R71 to R75). -/
def decode (w : CommandWord) : Instr :=
  match (readOpcode w).toNat with
  | 0x0 => .nop (readFieldsD w)
  | 0x1 => .clr (readFieldsD w)
  | 0x2 => .push (readFieldsD w)
  | 0x3 => .ldin (readFieldsD w)
  | 0x4 => .dispatch (readFieldsX w)
  | 0x5 => .slice (readFieldsX w)
  | 0x6 => .unpack (readFieldsX w)
  | 0x7 => .nsplit (readFieldsX w)
  | 0x8 => .tdec (readFieldsX w)
  | 0x9 => .insert (readFieldsX w)
  | 0xA => .pack (readFieldsX w)
  | 0xB => .npack (readFieldsX w)
  | 0xC => .tenc (readFieldsX w)
  | 0xD => .final (readFieldsX w)
  | 0xE => .reservedE (w.extractLsb' 0 60)
  | _ => .reservedF (w.extractLsb' 0 60)

/-- What a word is, by the decoder alone (30_encoding.md R83, R87): the two rejections have the names of their
status codes. -/
inductive Decoded where
  /-- a command with its fields within R76 -/
  | command (i : Instr)
  /-- a legal opcode with a field outside R76 -/
  | badOperand
  /-- OPC 0xE or 0xF -/
  | illegalOp
  deriving DecidableEq, Repr

/-- Every word is exactly one of a command, BAD_OPERAND and ILLEGAL_OP (30_encoding.md R87). -/
def classify (w : CommandWord) : Decoded :=
  if (decode w).isReserved then .illegalOp
  else if (decode w).wellFormed then .command (decode w)
  else .badOperand

/-- A format D word (30_encoding.md R73, R88). -/
def writeFieldsD (opc : BitVec 4) (f : FieldsD) : CommandWord := opc ++ (f.rsvd ++ f.imm)

/-- A format X word (30_encoding.md R72, R88). -/
def writeFieldsX (opc : BitVec 4) (f : FieldsX) : CommandWord :=
  opc ++ (f.off ++ (f.nb ++ (f.lsb ++ (f.wid ++ (BitVec.ofBool f.abs ++ (f.dsel ++
    (BitVec.ofBool f.t ++ f.rsv)))))))

/-- The opcode of a command (30_encoding.md R74, R75). -/
def opcodeOf : Instr → BitVec 4
  | .nop _ => 0x0
  | .clr _ => 0x1
  | .push _ => 0x2
  | .ldin _ => 0x3
  | .dispatch _ => 0x4
  | .slice _ => 0x5
  | .unpack _ => 0x6
  | .nsplit _ => 0x7
  | .tdec _ => 0x8
  | .insert _ => 0x9
  | .pack _ => 0xA
  | .npack _ => 0xB
  | .tenc _ => 0xC
  | .final _ => 0xD
  | .reservedE _ => 0xE
  | .reservedF _ => 0xF

/-- The word of a command (30_encoding.md R88). -/
def encode : Instr → CommandWord
  | .nop f => writeFieldsD 0x0 f
  | .clr f => writeFieldsD 0x1 f
  | .push f => writeFieldsD 0x2 f
  | .ldin f => writeFieldsD 0x3 f
  | .dispatch f => writeFieldsX 0x4 f
  | .slice f => writeFieldsX 0x5 f
  | .unpack f => writeFieldsX 0x6 f
  | .nsplit f => writeFieldsX 0x7 f
  | .tdec f => writeFieldsX 0x8 f
  | .insert f => writeFieldsX 0x9 f
  | .pack f => writeFieldsX 0xA f
  | .npack f => writeFieldsX 0xB f
  | .tenc f => writeFieldsX 0xC f
  | .final f => writeFieldsX 0xD f
  | .reservedE r => (0xE : BitVec 4) ++ r
  | .reservedF r => (0xF : BitVec 4) ++ r

/-- The word whose low `nbits` bits are those of `w`, every higher bit 0 (log entry 16). -/
def tableWord (nbits w : Nat) : CommandWord := BitVec.ofNat 64 (w % 2 ^ nbits)

/-- What the decoder reads from an instruction whose bits are `w`. A command word has no byte order
(30_encoding.md R70), so nothing is laid out in bytes; a row wider than a command word is refused. -/
def decodeTableWord (nbits w : Nat) : Option Instr :=
  if nbits ≤ 64 then some (decode (tableWord nbits w)) else none

end Sys2Proof
end

