-- ==== Sys2Proof/Machine/Port.lean ====
section
/-! DEFINITION. The host's four interactions (10_state.md R45): the register map as RDREG reads it, RDFB, the
answer a read gives, RESET, and what surrounds a command on the CMD port. -/

namespace Sys2Proof.Machine

/-- RDREG(a): the register zero-extended to 64 bits, reserved addresses 0x0B to 0x1F as 0 (10_state.md R39, R40). -/
def rdReg (s : State) (a : BitVec 5) : BitVec 64 :=
  match a.toNat with
  | 0x00 => (statusCode s.opstat).setWidth 64
  | 0x01 => (fstatWord s).setWidth 64
  | 0x02 => BitVec.ofNat 64 s.flen.val
  | 0x03 => s.typ.setWidth 64
  | 0x04 => s.subtype.setWidth 64
  | 0x05 => s.seq.setWidth 64
  | 0x06 => s.acc.setWidth 64
  | 0x07 => (accstWord s).setWidth 64
  | 0x08 => (nibWord s).setWidth 64
  | 0x09 => (tregWord s).setWidth 64
  | 0x0A => s.din.setWidth 64
  | _ => 0

/-- RDFB(i): the frame byte for i < FLEN, otherwise an unspecified byte (10_state.md R43, R45 (c); log entry 3). -/
def rdFb (s : State) (i : BitVec 8) : Byte :=
  if i.toNat < s.flen.val then s.fbByte i.toNat else Config.unspecifiedByte s.draw i.toNat

/-- What the host's next interaction gives it, when that is a read: a function of the state (00_scope.md R12,
10_state.md R46). A byte is answered zero-extended (DEDUCED, log entry 2, safe). -/
def answer (s : State) : Option (BitVec 64) :=
  match s.port with
  | .rdreg a :: _ => some (rdReg s a)
  | .rdfb i :: _ => some ((rdFb s i).setWidth 64)
  | .cmd _ :: _ => none
  | .reset :: _ => none
  | [] => none

/-- The host makes the interaction at the head of the port: `rest` is left to make. -/
def takePort (rest : List PortOp) (s : State) : State := { s with port := rest }

/-- After a completed CMD or RESET the bytes outside the frame are drawn afresh (10_state.md R43, R46; log
entry 3). -/
def freshDraw (s : State) : State := { s with draw := s.draw + 1 }

/-- RESET (70_reset_and_hazards.md R250): the reset state, with the host's later interactions still to come (log
entry 8). -/
def resetPort (s : State) : State := { State.reset with port := s.port, draw := s.draw }

/-- A command that answers a next state completes; a stop, which no command makes, stays a stop. -/
def completeCommand : Host.Outcome State Fault Refusal → Host.Outcome State Fault Refusal
  | .next s => .next (freshDraw s)
  | .fault r => .fault r
  | .refused r => .refused r

/-- The command word a table row's bits make, placed at the head of the port. -/
def placeWord (s : State) (nbits w : Nat) : State :=
  { s with port := .cmd (tableWord nbits w) :: s.port }

end Sys2Proof.Machine
end

