-- ==== Sys2Proof/Machine/Step.lean ====
section
/-! DEFINITION. One step of the PFD: the host's next interaction (00_scope.md R12, 10_state.md R45). -/

namespace Sys2Proof.Machine

/-- One step: a CMD runs the decoded command, a read changes nothing, RESET resets (10_state.md R45, R46); with
nothing on the port the state is held (60_exceptions.md R234; log entry 7). -/
def step (s : State) : Host.Outcome State Fault Refusal :=
  match s.port with
  | [] => .next s
  | .cmd w :: rest => completeCommand (exec (decode w) (takePort rest s))
  | .rdreg _ :: rest => .next (takePort rest s)
  | .rdfb _ :: rest => .next (takePort rest s)
  | .reset :: rest => .next (freshDraw (resetPort (takePort rest s)))

/-- The state with the word as the host's next interaction, so that the next step runs it (log entry 1). -/
def State.withFetchWord (s : State) (nbits w : Nat) : State := placeWord s nbits w

end Sys2Proof.Machine
end

