-- ==== Sys2Proof/Machine/Assembler.lean ====
section
/-! DEFINITION. The assembler syntax and the pseudo-instructions (30_encoding.md R84, R85): lines as data, their
expansion, and the reading of a line of text. An assembler refuses an operand that does not fit its field; it
does not wrap it (R84). What R84 leaves open is in log entry 13. -/

namespace Sys2Proof.Machine

/-- Why a line is refused. -/
inductive AsmError where
  /-- no such mnemonic, suffix or number of operands -/
  | badLine
  /-- an operand is no number -/
  | badNumber
  /-- an operand does not fit its field -/
  | doesNotFit
  deriving DecidableEq, Repr

/-- A line of 30_encoding.md R84, its operands as the numbers written. -/
inductive CoreLine where
  | nop
  | clr
  | push (b : Int)
  | ldin (v : Int)
  | dispatch
  | slice (abs : Bool) (off nb lsb wid : Int)
  | unpack (abs : Bool) (off nb dsel : Int)
  | nsplit (abs : Bool) (off : Int)
  | nsplitTail (abs : Bool)
  | tdec (abs : Bool) (off : Int)
  | insert (off nb lsb wid : Int)
  | pack (off nb : Int)
  | npack (off : Int)
  | npackTail
  | tenc (nz : Bool) (off : Int)
  | final
  deriving DecidableEq, Repr

/-- A pseudo-instruction of 30_encoding.md R85. -/
inductive PseudoLine where
  | rdb (off : Int)
  | bit (off n : Int)
  | hinib (off : Int)
  | lonib (off : Int)
  | wrb (off v : Int)
  | zero (off nb : Int)
  | setf (off nb lsb wid v : Int)
  | loadframe (bytes : List Int)
  | newframe (n : Nat)
  deriving DecidableEq, Repr

/-- The commands a pseudo-instruction stands for, and nothing else (30_encoding.md R85). -/
def expandPseudo : PseudoLine → List CoreLine
  | .rdb off => [.slice false off 1 0 8]
  | .bit off n => [.slice false off 1 n 1]
  | .hinib off => [.slice false off 1 4 4]
  | .lonib off => [.slice false off 1 0 4]
  | .wrb off v => [.ldin v, .pack off 1]
  | .zero off nb => [.ldin 0, .pack off nb]
  | .setf off nb lsb wid v => [.ldin v, .insert off nb lsb wid]
  | .loadframe bytes => .clr :: bytes.map CoreLine.push
  | .newframe n => .clr :: List.replicate n (.push 0)

/-- A number as a field of n bits, refused when it does not fit (30_encoding.md R84). -/
def fitField (n : Nat) (v : Int) : Except AsmError (BitVec n) :=
  if 0 ≤ v ∧ v < 2 ^ n then .ok (BitVec.ofInt n v) else .error .doesNotFit

/-- LDIN's operand: a number of 48 bits, or a negative number that has a 48-bit two's complement (30_encoding.md
R84; DEDUCED, log entry 13, safe). -/
def fitLdin (v : Int) : Except AsmError (BitVec 48) :=
  if -(2 ^ 47) ≤ v ∧ v < 2 ^ 48 then .ok (BitVec.ofInt 48 v) else .error .doesNotFit

/-- A format D field list with IMM alone. -/
def immFields (imm : BitVec 48) : FieldsD where
  rsvd := 0
  imm := imm

/-- A format X field list whose fields are 0. -/
def zeroFields : FieldsX where
  off := 0
  nb := 0
  lsb := 0
  wid := 0
  abs := false
  dsel := 0
  t := false
  rsv := 0

/-- A format X field list with a bit field's position. -/
def fieldLine (off nb lsb wid : Int) : Except AsmError FieldsX := do
  let o ← fitField 8 off
  let n ← fitField 3 nb
  let l ← fitField 6 lsb
  let w ← fitField 6 wid
  return { zeroFields with off := o, nb := n, lsb := l, wid := w }

/-- The command a line stands for, with the fields the table of 30_encoding.md R84 sets. -/
def assembleCore : CoreLine → Except AsmError Instr
  | .nop => .ok (.nop (immFields 0))
  | .clr => .ok (.clr (immFields 0))
  | .push b => do
    let v ← fitField 8 b
    return .push (immFields (v.setWidth 48))
  | .ldin v => do
    let imm ← fitLdin v
    return .ldin (immFields imm)
  | .dispatch => .ok (.dispatch zeroFields)
  | .slice abs off nb lsb wid => do
    let f ← fieldLine off nb lsb wid
    return .slice { f with abs := abs }
  | .unpack abs off nb dsel => do
    let f ← fieldLine off nb 0 0
    let d ← fitField 4 dsel
    return .unpack { f with abs := abs, dsel := d }
  | .nsplit abs off => do
    let f ← fieldLine off 1 0 0
    return .nsplit { f with abs := abs }
  | .nsplitTail abs => .ok (.nsplit { zeroFields with nb := 1, abs := abs, t := true })
  | .tdec abs off => do
    let f ← fieldLine off 2 0 0
    return .tdec { f with abs := abs }
  | .insert off nb lsb wid => do
    let f ← fieldLine off nb lsb wid
    return .insert f
  | .pack off nb => do
    let f ← fieldLine off nb 0 0
    return .pack f
  | .npack off => do
    let f ← fieldLine off 1 0 0
    return .npack f
  | .npackTail => .ok (.npack { zeroFields with nb := 1, t := true })
  | .tenc nz off => do
    let f ← fieldLine off 2 0 0
    return .tenc { f with t := nz }
  | .final => .ok (.final zeroFields)

/-- The command words of some lines, in order. -/
def assembleLines : List CoreLine → Except AsmError (List CommandWord)
  | [] => .ok []
  | l :: ls => do
    let i ← assembleCore l
    let ws ← assembleLines ls
    return encode i :: ws

/-! ### The text of a line -/

/-- The text before a comment (30_encoding.md R84: `;` starts a comment). -/
def stripComment (cs : List Char) : List Char := cs.takeWhile (· ≠ ';')

/-- A space or a tab. -/
def isBlankChar (c : Char) : Bool := decide (c = ' ') || decide (c = '\t')

/-- The text without the blanks at its two ends. -/
def trimBlanks (cs : List Char) : List Char :=
  ((cs.dropWhile isBlankChar).reverse.dropWhile isBlankChar).reverse

/-- The parts of a text between the separators. -/
def splitAtChar (sep : Char) : List Char → List (List Char)
  | [] => [[]]
  | c :: cs =>
    match splitAtChar sep cs with
    | [] => [[c]]
    | p :: ps => if c = sep then [] :: p :: ps else (c :: p) :: ps

/-- The value of a digit, hex letters in either case. -/
def digitValue (c : Char) : Nat :=
  if '0' ≤ c ∧ c ≤ '9' then c.toNat - '0'.toNat
  else if 'a' ≤ c ∧ c ≤ 'f' then c.toNat - 'a'.toNat + 10
  else if 'A' ≤ c ∧ c ≤ 'F' then c.toNat - 'A'.toNat + 10
  else 16

/-- The value of digits in a base, after the value read so far. -/
def digitsValue (base acc : Nat) : List Char → Except AsmError Nat
  | [] => .ok acc
  | c :: cs =>
    if digitValue c < base then digitsValue base (base * acc + digitValue c) cs else .error .badNumber

/-- An unsigned number, decimal or `0x` hex (30_encoding.md R84). -/
def readNatural : List Char → Except AsmError Nat
  | [] => .error .badNumber
  | '0' :: 'x' :: [] => .error .badNumber
  | '0' :: 'x' :: ds => digitsValue 16 0 ds
  | ds => digitsValue 10 0 ds

/-- A number, with `-` before it when negative (30_encoding.md R84: LDIN's operand may be). -/
def readNumber (cs : List Char) : Except AsmError Int :=
  match cs with
  | '-' :: ds => do
    let n ← readNatural ds
    return -(n : Int)
  | ds => do
    let n ← readNatural ds
    return (n : Int)

/-- The operands of a line: none, or numbers separated by commas. -/
def readOperands (cs : List Char) : Except AsmError (List Int) :=
  if cs = [] then .ok [] else (splitAtChar ',' cs).mapM fun p => readNumber (trimBlanks p)

/-- The lines a mnemonic, its suffixes and its operands stand for (30_encoding.md R84, R85). -/
def readLineCommand (mnemonic : String) (suffixes : List String) (ops : List Int) :
    Except AsmError (List CoreLine) :=
  match mnemonic, suffixes, ops with
  | "NOP", [], [] => .ok [.nop]
  | "CLR", [], [] => .ok [.clr]
  | "PUSH", [], [b] => .ok [.push b]
  | "LDIN", [], [v] => .ok [.ldin v]
  | "DISPATCH", [], [] => .ok [.dispatch]
  | "SLICE", [], [off, nb, lsb, wid] => .ok [.slice false off nb lsb wid]
  | "SLICE", ["ABS"], [off, nb, lsb, wid] => .ok [.slice true off nb lsb wid]
  | "UNPACK", [], [off, nb] => .ok [.unpack false off nb 0]
  | "UNPACK", [], [off, nb, dsel] => .ok [.unpack false off nb dsel]
  | "UNPACK", ["ABS"], [off, nb] => .ok [.unpack true off nb 0]
  | "UNPACK", ["ABS"], [off, nb, dsel] => .ok [.unpack true off nb dsel]
  | "NSPLIT", [], [off] => .ok [.nsplit false off]
  | "NSPLIT", ["ABS"], [off] => .ok [.nsplit true off]
  | "NSPLIT", ["T"], [] => .ok [.nsplitTail false]
  | "NSPLIT", ["T", "ABS"], [] => .ok [.nsplitTail true]
  | "TDEC", [], [off] => .ok [.tdec false off]
  | "TDEC", ["ABS"], [off] => .ok [.tdec true off]
  | "INSERT", [], [off, nb, lsb, wid] => .ok [.insert off nb lsb wid]
  | "PACK", [], [off, nb] => .ok [.pack off nb]
  | "NPACK", [], [off] => .ok [.npack off]
  | "NPACK", ["T"], [] => .ok [.npackTail]
  | "TENC", [], [off] => .ok [.tenc false off]
  | "TENC", ["NZ"], [off] => .ok [.tenc true off]
  | "FINAL", [], [] => .ok [.final]
  | "RDB", [], [off] => .ok (expandPseudo (.rdb off))
  | "BIT", [], [off, n] => .ok (expandPseudo (.bit off n))
  | "HINIB", [], [off] => .ok (expandPseudo (.hinib off))
  | "LONIB", [], [off] => .ok (expandPseudo (.lonib off))
  | "WRB", [], [off, v] => .ok (expandPseudo (.wrb off v))
  | "ZERO", [], [off, nb] => .ok (expandPseudo (.zero off nb))
  | "SETF", [], [off, nb, lsb, wid, v] => .ok (expandPseudo (.setf off nb lsb wid v))
  | "LOADFRAME", [], b :: bs => .ok (expandPseudo (.loadframe (b :: bs)))
  | "NEWFRAME", [], [n] => if 0 ≤ n then .ok (expandPseudo (.newframe n.toNat)) else .error .doesNotFit
  | _, _, _ => .error .badLine

/-- The lines one line of text stands for; none for an empty line or a comment alone (30_encoding.md R84). -/
def readLine (text : List Char) : Except AsmError (List CoreLine) :=
  let cs := trimBlanks (stripComment text)
  if cs = [] then .ok []
  else
    let head := cs.takeWhile fun c => !isBlankChar c
    let rest := trimBlanks (cs.dropWhile fun c => !isBlankChar c)
    match splitAtChar '.' head with
    | [] => .error .badLine
    | m :: sufs => do
      let ops ← readOperands rest
      readLineCommand (String.ofList m) (sufs.map String.ofList) ops

/-- The command words of one line of text (30_encoding.md R84, R85). -/
def assembleText (text : List Char) : Except AsmError (List CommandWord) := do
  let ls ← readLine text
  assembleLines ls

end Sys2Proof.Machine
end

