-- ==== Sys2Proof/Machine/Observe.lean ====
section
/-! DEFINITION. What a host or a model reads out of the state (00_scope.md R13; 10_state.md R37): a register whose
valid bit is 0 holds no value (DEDUCED, log entry 14, safe). -/

namespace Sys2Proof.Machine

/-- The frame: the bytes FB[0..FLEN−1] (10_state.md R21, glossary "Frame"). -/
def frameBytes (s : State) : List Byte := (List.range s.flen.val).map s.fbByte

/-- TYPE, SUBTYPE, SEQ, CLASS and SUBKNOWN, when HDRVLD = 1 (10_state.md R37). -/
def headerReading (s : State) : Option (Byte × Byte × Byte × FrameClass × Bool) :=
  if s.hdrvld then some (s.typ, s.subtype, s.seq, s.cls, s.subknown) else none

/-- ACC and ACC_DSEL, when ACC_VLD = 1 (10_state.md R37). -/
def accReading (s : State) : Option (BitVec 48 × BitVec 4) :=
  if s.accVld then some (s.acc, s.accDsel) else none

/-- RSSI and BATT, when NIB_VLD = 1 (10_state.md R37). -/
def nibReading (s : State) : Option (BitVec 4 × BitVec 4) :=
  if s.nibVld then some (s.rssi, s.batt) else none

/-- TSIGN, TMAG and TEMP, when T_VLD = 1 (10_state.md R37). -/
def tempReading (s : State) : Option (Bool × BitVec 15 × BitVec 16) :=
  if s.tVld then some (s.tsign, s.tmag, s.temp) else none

/-- The scaled value `ACC / DIVTAB[ACC_DSEL]`, exact, when ACC_VLD = 1 (42_be_integer.md R142). -/
def scaledValue (s : State) : Option Rat :=
  if s.accVld then (divtab s.accDsel).map fun d => (s.acc.toNat : Rat) / divisorValue d else none

/-- The physical temperature `TEMP / 10`, exact, when T_VLD = 1 (41_temperature.md R122). -/
def physicalTemperature (s : State) : Option Rat :=
  if s.tVld then some ((s.temp.toInt : Rat) / 10) else none

/-- A temperature of magnitude 0 with the sign bit set, which TEMP does not show (41_temperature.md R125). -/
def isNegativeZero (s : State) : Bool := s.tVld && s.tsign && decide (s.tmag = 0)

/-- The frame-level verdict, "a result" or "None": FVALID after the host's last command (44_dispatch.md R188). -/
def frameVerdict (s : State) : Bool := s.fvalid

end Sys2Proof.Machine
end

