-- ==== Sys2Proof/Safety.lean ====
section
/-! DEFINITION. The terms the claims are stated in: what two states show alike, the invariant of the PFD, runs over
a list of host interactions, and the source's decode contract. -/

namespace Sys2Proof.Machine

/-- The same registers: every field but FB, the host's list and the draw (10_state.md R39). -/
def sameRegisters (s t : State) : Prop :=
  { t with fb := s.fb, port := s.port, draw := s.draw } = s

/-- The same frame: FLEN and every byte FB[0..FLEN−1] (10_state.md R42). -/
def sameFrame (s t : State) : Prop :=
  s.flen = t.flen ∧ ∀ a, a < s.flen.val → s.fbByte a = t.fbByte a

/-- All that a host can observe of FB and the registers is the same; bytes outside the frame are not compared
(10_state.md R43, R47). -/
def sameObservable (s t : State) : Prop := sameRegisters s t ∧ sameFrame s t

/-- The invariant of the PFD, in states that a run can reach. -/
structure State.Inv (s : State) : Prop where
  /-- FB's list is canonical (10_state.md R21) -/
  fbCanonical : Memory.wf s.fb = true
  /-- every byte of the frame was written (10_state.md R42) -/
  frameWritten : ∀ a, a < s.flen.val → (Memory.lookup s.fb a).isSome = true
  /-- OVF only with a full buffer (10_state.md R23) -/
  overflowFull : s.ovf = true → s.flen.val = 256
  /-- the header group holds 0 while HDRVLD = 0 (10_state.md R37) -/
  headerCleared : s.hdrvld = false →
    s.typ = 0 ∧ s.subtype = 0 ∧ s.seq = 0 ∧ s.cls = .none ∧ s.subknown = false
  /-- the accumulator group holds 0 while ACC_VLD = 0 (10_state.md R37) -/
  accCleared : s.accVld = false → s.acc = 0 ∧ s.accDsel = 0
  /-- the nibble group holds 0 while NIB_VLD = 0 (10_state.md R37) -/
  nibCleared : s.nibVld = false → s.rssi = 0 ∧ s.batt = 0
  /-- the temperature group holds 0 while T_VLD = 0 (10_state.md R37) -/
  tempCleared : s.tVld = false → s.tsign = false ∧ s.tmag = 0 ∧ s.temp = 0
  /-- CLASS is the class of TYPE's entry and SUBKNOWN its subtype's flag while HDRVLD = 1 (10_state.md R27) -/
  headerRegistered : s.hdrvld = true →
    ∃ e, registry s.typ = some e ∧ s.cls = classOf e ∧ s.subknown = subtypeKnown s.typ s.subtype
  /-- ACC_DSEL names a present divisor while ACC_VLD = 1 (42_be_integer.md R141, R142) -/
  divisorPresent : s.accVld = true → (divtab s.accDsel).isSome = true
  /-- TEMP is the magnitude with its sign (10_state.md R34, 41_temperature.md R121) -/
  tempSigned : s.temp.toInt = if s.tsign then -(s.tmag.toNat : Int) else (s.tmag.toNat : Int)
  /-- FVALID only on a frame that passes the framing check and whose header is latched (10_state.md R26,
  44_dispatch.md R182, R186) -/
  verdictFramed : s.fvalid = true →
    s.hdrvld = true ∧ s.ovf = false ∧ 4 ≤ s.flen.val ∧ (s.fbByte 0).toNat + 1 = s.flen.val ∧
      s.typ = s.fbByte 1 ∧ s.subtype = s.fbByte 2 ∧ s.seq = s.fbByte 3

/-- The host makes these interactions, one per step, on a PFD with nothing else on its port. -/
def afterOps (ops : List PortOp) (s : State) : Host.Outcome State Fault Refusal :=
  Host.Core.run Sys2Proof.core ops.length { s with port := ops }

/-- The words of a frame's load: CLR, one PUSH per byte, then DISPATCH (40_frame.md R106). -/
def loadAndDispatch (bytes : List Byte) : List PortOp :=
  .cmd (encode (.clr { rsvd := 0, imm := 0 })) ::
    (bytes.map fun b => PortOp.cmd (encode (.push { rsvd := 0, imm := b.setWidth 48 }))) ++
    [.cmd (encode (.dispatch
      { off := 0, nb := 0, lsb := 0, wid := 0, abs := false, dsel := 0, t := false, rsv := 0 }))]

/-- The source's contract for a buffer whose fields are all read inside it: length ≥ 2, declared length (byte 0)
+ 1 = length, a registered type, and the four header bytes present (44_dispatch.md, the source's §4.2; R181, R186). -/
def contractAccepts (bytes : List Byte) : Bool :=
  decide (2 ≤ bytes.length) && decide ((bytes.getD 0 0).toNat + 1 = bytes.length) &&
    (registry (bytes.getD 1 0)).isSome && decide (4 ≤ bytes.length)

/-- `BE(B, o, n)` as the sum of 00_scope.md R10, over the bytes of FB. -/
def bigEndianSum (s : State) (o n : Nat) : Nat :=
  ((List.range n).map fun k => (s.fbByte (o + k)).toNat * 2 ^ (8 * (n - 1 - k))).sum

/-- A command whose meaning writes FB when it succeeds (10_state.md R21, R26 (c)). -/
def writesFb : Instr → Bool
  | .push _ | .final _ | .tenc _ | .pack _ | .npack _ | .insert _ => true
  | .nop _ | .clr _ | .ldin _ | .dispatch _ | .slice _ | .unpack _ | .nsplit _ | .tdec _ | .reservedE _
  | .reservedF _ => false

/-- A reading command (10_state.md R26 (b)). -/
def readsField : Instr → Bool
  | .slice _ | .unpack _ | .nsplit _ | .tdec _ => true
  | .nop _ | .clr _ | .push _ | .ldin _ | .dispatch _ | .insert _ | .pack _ | .npack _ | .tenc _ | .final _
  | .reservedE _ | .reservedF _ => false

/-- The codes a command can end with (60_exceptions.md R222, column "Raised by"). -/
def statusesOf : Instr → List Status
  | .nop _ | .clr _ | .ldin _ => [.ok, .badOperand]
  | .push _ => [.ok, .badOperand, .overflow]
  | .dispatch _ => [.ok, .badOperand, .framing, .unknownType, .truncated]
  | .slice _ | .unpack _ | .nsplit _ | .tdec _ => [.ok, .badOperand, .absent, .truncated]
  | .insert _ | .pack _ | .npack _ | .tenc _ | .final _ => [.ok, .badOperand, .truncated]
  | .reservedE _ | .reservedF _ => [.illegalOp]

end Sys2Proof.Machine
end

