-- ==== Sys2Proof/Certificates/Slice0/Obligations.lean ====
section
/-! DEFINITION. The statements about the PFD, each a proposition for the provers. The rows of 30_encoding.md R76 and
R88 are written out here again, from the spec, so that a statement does not rest on the model's own checks. -/

open Sys2Proof Sys2Proof.Machine

namespace Sys2Proof.Claims

/-! ### The rows of 30_encoding.md R76, as equations on the fields -/

/-- Every field 0 in format X. -/
def zeroX : FieldsX :=
  { off := 0, nb := 0, lsb := 0, wid := 0, abs := false, dsel := 0, t := false, rsv := 0 }

/-- Every field 0 in format D. -/
def zeroD : FieldsD := { rsvd := 0, imm := 0 }

/-- Row SLICE. -/
def sliceRow (f : FieldsX) : Prop :=
  (1 ≤ f.nb.toNat ∧ f.nb.toNat ≤ 6) ∧ (1 ≤ f.wid.toNat ∧ f.wid.toNat ≤ 48) ∧
    f.lsb.toNat + f.wid.toNat ≤ 8 * f.nb.toNat ∧ f.dsel = 0 ∧ f.t = false ∧ f.rsv = 0

/-- Row INSERT. -/
def insertRow (f : FieldsX) : Prop := sliceRow f ∧ f.abs = false

/-- Row UNPACK. -/
def unpackRow (f : FieldsX) : Prop :=
  (1 ≤ f.nb.toNat ∧ f.nb.toNat ≤ 6) ∧ f.lsb = 0 ∧ f.wid = 0 ∧ f.t = false ∧ f.rsv = 0 ∧
    divtab f.dsel ≠ none

/-- Row PACK. -/
def packRow (f : FieldsX) : Prop :=
  (1 ≤ f.nb.toNat ∧ f.nb.toNat ≤ 6) ∧ f.lsb = 0 ∧ f.wid = 0 ∧ f.abs = false ∧ f.dsel = 0 ∧ f.t = false ∧
    f.rsv = 0

/-- Row NSPLIT. -/
def nsplitRow (f : FieldsX) : Prop :=
  f.nb = 1 ∧ f.lsb = 0 ∧ f.wid = 0 ∧ f.dsel = 0 ∧ f.rsv = 0 ∧ (f.t = true → f.off = 0)

/-- Row NPACK. -/
def npackRow (f : FieldsX) : Prop := nsplitRow f ∧ f.abs = false

/-- Row TDEC. -/
def tdecRow (f : FieldsX) : Prop :=
  f.nb = 2 ∧ f.lsb = 0 ∧ f.wid = 0 ∧ f.dsel = 0 ∧ f.t = false ∧ f.rsv = 0

/-- Row TENC. -/
def tencRow (f : FieldsX) : Prop :=
  f.nb = 2 ∧ f.lsb = 0 ∧ f.wid = 0 ∧ f.abs = false ∧ f.dsel = 0 ∧ f.rsv = 0

/-- A row of the opcode table: the word has the row's fixed bits (30_encoding.md R88). -/
def matchesPattern (w mask pattern : CommandWord) : Prop := w &&& mask = pattern

/-- NB, LSB and WID of a word of format X (30_encoding.md R72). -/
def nbOf (w : CommandWord) : Nat := w.toNat / 2 ^ 49 % 8
def lsbOf (w : CommandWord) : Nat := w.toNat / 2 ^ 43 % 64
def widOf (w : CommandWord) : Nat := w.toNat / 2 ^ 37 % 64

/-- The constraint "NB in 1..6; WID in 1..48; LSB + WID ≤ 8·NB" on a word. -/
def bitFieldInWindow (w : CommandWord) : Prop :=
  (1 ≤ nbOf w ∧ nbOf w ≤ 6) ∧ (1 ≤ widOf w ∧ widOf w ≤ 48) ∧ lsbOf w + widOf w ≤ 8 * nbOf w

/-- The word is one of the 14 commands with its fields within its row: the masks, patterns and constraints of
30_encoding.md R88 and R76. -/
def spellsCommand (w : CommandWord) : Prop :=
  matchesPattern w 0xFFFFFFFFFFFFFFFF 0x0000000000000000 ∨
  matchesPattern w 0xFFFFFFFFFFFFFFFF 0x1000000000000000 ∨
  matchesPattern w 0xFFFFFFFFFFFFFF00 0x2000000000000000 ∨
  matchesPattern w 0xFFFF000000000000 0x3000000000000000 ∨
  matchesPattern w 0xFFFFFFFFFFFFFFFF 0x4000000000000000 ∨
  (matchesPattern w 0xF000000FFFFFFFFF 0x5000000000000000 ∧ bitFieldInWindow w) ∨
  (matchesPattern w 0xF001FFE0FFFFFFFF 0x6000000000000000 ∧ (1 ≤ nbOf w ∧ nbOf w ≤ 6) ∧
    divtab (BitVec.ofNat 4 (w.toNat / 2 ^ 32)) ≠ none) ∨
  (matchesPattern w 0xF00FFFEF7FFFFFFF 0x7002000000000000 ∧
    (w.getLsbD 31 = true → w.toNat / 2 ^ 52 % 256 = 0)) ∨
  matchesPattern w 0xF00FFFEFFFFFFFFF 0x8004000000000000 ∨
  (matchesPattern w 0xF000001FFFFFFFFF 0x9000000000000000 ∧ bitFieldInWindow w) ∨
  (matchesPattern w 0xF001FFFFFFFFFFFF 0xA000000000000000 ∧ 1 ≤ nbOf w ∧ nbOf w ≤ 6) ∨
  (matchesPattern w 0xF00FFFFF7FFFFFFF 0xB002000000000000 ∧
    (w.getLsbD 31 = true → w.toNat / 2 ^ 52 % 256 = 0)) ∨
  matchesPattern w 0xF00FFFFF7FFFFFFF 0xC004000000000000 ∨
  matchesPattern w 0xFFFFFFFFFFFFFFFF 0xD000000000000000

/-! ### What a command leaves alone -/

/-- Everything but FB, FVALID and OPSTAT is as before; FVALID is 0 and OPSTAT is OK: the frame of a writing command
that succeeds (10_state.md R44). -/
def wroteFrame (s t : State) : Prop :=
  { t with fb := s.fb } = { s with fvalid := false, opstat := .ok }

/-- The state after a failure that clears nothing. -/
def failed (e : Status) (s : State) : State := { s with opstat := e }

/-- The accumulator group cleared (10_state.md R37). -/
def accCleared (s : State) : State := { s with acc := 0, accDsel := 0, accVld := false }

/-- The nibble group cleared (10_state.md R37). -/
def nibCleared (s : State) : State := { s with rssi := 0, batt := 0, nibVld := false }

/-- The temperature group cleared (10_state.md R37). -/
def tempCleared (s : State) : State := { s with tsign := false, tmag := 0, temp := 0, tVld := false }

/-- The header group and FVALID cleared (44_dispatch.md R187). -/
def headerCleared (s : State) : State :=
  { s with typ := 0, subtype := 0, seq := 0, cls := .none, subknown := false, hdrvld := false, fvalid := false }

/-- The header captured from the frame and the class of its type's entry (44_dispatch.md R184, R185, R186). -/
def headerCaptured (e : RegistryEntry) (s : State) : State :=
  { s with
    typ := s.fbByte 1, subtype := s.fbByte 2, seq := s.fbByte 3,
    cls := if e.status = true then .status else if e.sensor = true then .sensor else .control,
    subknown := subtypeKnown (s.fbByte 1) (s.fbByte 2), hdrvld := true, fvalid := true, opstat := .ok }

/-- The result group of a reading command cleared; other commands clear none (60_exceptions.md R221 (b)). -/
def groupCleared : Instr → State → State
  | .slice _, s | .unpack _, s => accCleared s
  | .nsplit _, s => nibCleared s
  | .tdec _, s => tempCleared s
  | .nop _, s | .clr _, s | .push _, s | .ldin _, s | .dispatch _, s | .insert _, s | .pack _, s
  | .npack _, s | .tenc _, s | .final _, s | .reservedE _, s | .reservedF _, s => s

def isPush : Instr → Bool
  | .push _ => true
  | .nop _ | .clr _ | .ldin _ | .dispatch _ | .slice _ | .unpack _ | .nsplit _ | .tdec _ | .insert _ | .pack _
  | .npack _ | .tenc _ | .final _ | .reservedE _ | .reservedF _ => false

def isClr : Instr → Bool
  | .clr _ => true
  | .nop _ | .push _ | .ldin _ | .dispatch _ | .slice _ | .unpack _ | .nsplit _ | .tdec _ | .insert _ | .pack _
  | .npack _ | .tenc _ | .final _ | .reservedE _ | .reservedF _ => false

def isDispatch : Instr → Bool
  | .dispatch _ => true
  | .nop _ | .clr _ | .push _ | .ldin _ | .slice _ | .unpack _ | .nsplit _ | .tdec _ | .insert _ | .pack _
  | .npack _ | .tenc _ | .final _ | .reservedE _ | .reservedF _ => false

/-- NOP, LDIN and the reserved opcodes: the words whose FVALID column of 10_state.md R44 is a dash. -/
def leavesVerdict : Instr → Bool
  | .nop _ | .ldin _ | .reservedE _ | .reservedF _ => true
  | .clr _ | .push _ | .dispatch _ | .slice _ | .unpack _ | .nsplit _ | .tdec _ | .insert _ | .pack _ | .npack _
  | .tenc _ | .final _ => false

/-! ### The numbers of the codes -/

/-- The status codes of 60_exceptions.md R222, by number. -/
def statusNumber : Status → Nat
  | .ok => 0
  | .framing => 1
  | .unknownType => 2
  | .truncated => 3
  | .absent => 4
  | .badOperand => 5
  | .overflow => 6
  | .illegalOp => 7

/-- The class codes of 10_state.md R28, by number. -/
def classNumber : FrameClass → Nat
  | .none => 0
  | .status => 1
  | .sensor => 2
  | .control => 3

/-! ### The lines of 30_encoding.md R84 -/

/-- The number is in 0..2^n − 1: it fits a field of n bits. -/
def fits (n : Nat) (v : Int) : Prop := 0 ≤ v ∧ v < 2 ^ n

/-- Every operand of the line fits the field it fills (30_encoding.md R84). LDIN's range −2^47 ≤ v < 2^48 is the
model's reading (log entry 13). -/
def lineFits : CoreLine → Prop
  | .nop | .clr | .dispatch | .final | .nsplitTail _ | .npackTail => True
  | .push b => fits 8 b
  | .ldin v => -(2 ^ 47) ≤ v ∧ v < 2 ^ 48
  | .slice _ off nb lsb wid | .insert off nb lsb wid => fits 8 off ∧ fits 3 nb ∧ fits 6 lsb ∧ fits 6 wid
  | .unpack _ off nb dsel => fits 8 off ∧ fits 3 nb ∧ fits 4 dsel
  | .pack off nb => fits 8 off ∧ fits 3 nb
  | .nsplit _ off | .tdec _ off | .npack off | .tenc _ off => fits 8 off

/-- A number as a field of n bits. -/
def field (n : Nat) (v : Int) : BitVec n := BitVec.ofNat n v.toNat

/-- The command of the line, with the fields of the table of 30_encoding.md R84: every field it does not name is 0,
and LDIN's IMM is v mod 2^48. -/
def lineCommand : CoreLine → Instr
  | .nop => .nop zeroD
  | .clr => .clr zeroD
  | .push b => .push { zeroD with imm := field 48 b }
  | .ldin v => .ldin { zeroD with imm := field 48 (v % 2 ^ 48) }
  | .dispatch => .dispatch zeroX
  | .slice abs off nb lsb wid =>
    .slice { zeroX with off := field 8 off, nb := field 3 nb, lsb := field 6 lsb, wid := field 6 wid, abs := abs }
  | .unpack abs off nb dsel =>
    .unpack { zeroX with off := field 8 off, nb := field 3 nb, abs := abs, dsel := field 4 dsel }
  | .nsplit abs off => .nsplit { zeroX with off := field 8 off, nb := 1, abs := abs }
  | .nsplitTail abs => .nsplit { zeroX with nb := 1, abs := abs, t := true }
  | .tdec abs off => .tdec { zeroX with off := field 8 off, nb := 2, abs := abs }
  | .insert off nb lsb wid =>
    .insert { zeroX with off := field 8 off, nb := field 3 nb, lsb := field 6 lsb, wid := field 6 wid }
  | .pack off nb => .pack { zeroX with off := field 8 off, nb := field 3 nb }
  | .npack off => .npack { zeroX with off := field 8 off, nb := 1 }
  | .npackTail => .npack { zeroX with nb := 1, t := true }
  | .tenc nz off => .tenc { zeroX with off := field 8 off, nb := 2, t := nz }
  | .final => .final zeroX

end Sys2Proof.Claims

open Sys2Proof.Claims

/-! ### Encoding -/

/-- 30_encoding.md R72, R73, R74: no bit of an encoding is dropped; every instruction, with every operand at every
value its field can hold, is read back from its word. -/
def Obligations.DecodeOfEncodeIsTheInstruction : Prop := ∀ i : Instr, decode (encode i) = i

/-- 30_encoding.md R70, R72, R73, R87: every 64-bit word is the word of what it decodes to. -/
def Obligations.EncodeOfDecodeIsTheWord : Prop := ∀ w : CommandWord, encode (decode w) = w

/-- 30_encoding.md R75, R83, R87: every word is exactly one of ILLEGAL_OP, a command and BAD_OPERAND. -/
def Obligations.EveryWordIsClassifiedOnce : Prop :=
  ∀ w : CommandWord,
    (classify w = .illegalOp ↔ 14 ≤ w.toNat / 2 ^ 60) ∧
    (∀ i, classify w = .command i ↔ w.toNat / 2 ^ 60 < 14 ∧ decode w = i ∧ i.wellFormed = true) ∧
    (classify w = .badOperand ↔ w.toNat / 2 ^ 60 < 14 ∧ (decode w).wellFormed = false)

/-- 30_encoding.md R76, R88 and opcode_table.json: a word with a legal opcode is well formed exactly when it fits
one of the fourteen encoding patterns with its constraint. -/
def Obligations.WellFormedWordsAreTheEncodingPatterns : Prop :=
  ∀ w : CommandWord, w.toNat / 2 ^ 60 < 14 → ((decode w).wellFormed = true ↔ spellsCommand w)

/-- 30_encoding.md R86: the worked encodings, from the assembler's text. -/
def Obligations.WorkedEncodings : Prop :=
  assembleText "DISPATCH".toList = .ok [0x4000000000000000] ∧
  assembleText "PUSH 0x0B".toList = .ok [0x200000000000000B] ∧
  assembleText "UNPACK 6, 2, 2".toList = .ok [0x6064000200000000] ∧
  assembleText "NSPLIT.T".toList = .ok [0x7002000080000000] ∧
  assembleText "TDEC 4".toList = .ok [0x8044000000000000] ∧
  assembleText "SLICE 4, 1, 7, 1".toList = .ok [0x5042382000000000]

/-- 30_encoding.md R88: one word per family, written out from its pattern, decodes to its instruction. -/
def Obligations.FamilyWordsDecodeAsWritten : Prop :=
  decode 0x2000000000000010 = .push { rsvd := 0, imm := 0x10 } ∧
  decode 0x4000000000000000 = .dispatch zeroX ∧
  decode 0x6086000100000000 = .unpack { zeroX with off := 8, nb := 3, dsel := 1 } ∧
  decode 0x7002000080000000 = .nsplit { zeroX with nb := 1, t := true } ∧
  decode 0x8084001000000000 = .tdec { zeroX with off := 8, nb := 2, abs := true } ∧
  decode 0x9048038000000000 = .insert { zeroX with off := 4, nb := 4, lsb := 0, wid := 28 } ∧
  decode 0xE000000000000001 = .reservedE 1

/-! ### One step -/

/-- 00_scope.md R12, 10_state.md R45 (a): a CMD at the head of the port runs the decoded command; the step adds the
next draw of the bytes outside the frame (the model's choice, log entry 3). -/
def Obligations.StepRunsTheDecodedCommand : Prop :=
  ∀ (s t : State) (w : CommandWord) (rest : List PortOp) (i : Instr),
    s.port = .cmd w :: rest → decode w = i → exec i { s with port := rest } = .next t →
    step s = .next { t with draw := t.draw + 1 }

/-- 60_exceptions.md R220: for every word and state, one next state, its OPSTAT written whatever OPSTAT held. -/
def Obligations.EveryWordHasOneOutcome : Prop :=
  ∀ (w : CommandWord) (s : State), ∃ t, exec (decode w) s = .next t ∧
    t.opstat ∈ [Status.ok, .framing, .unknownType, .truncated, .absent, .badOperand, .overflow, .illegalOp] ∧
    ∀ x : Status, exec (decode w) { s with opstat := x } = .next t

/-- 60_exceptions.md R220 on the whole port, with 10_state.md R46 and 60_exceptions.md R234: every state steps. -/
def Obligations.EveryStateSteps : Prop := ∀ s : State, ∃ t, step s = .next t

/-- 10_state.md R46: a read changes nothing and gives the host a value of the state the last command left. -/
def Obligations.HostReadsChangeNothing : Prop :=
  (∀ (s : State) (a : BitVec 5) (rest : List PortOp), s.port = .rdreg a :: rest →
    step s = .next { s with port := rest } ∧ answer s = some (rdReg s a)) ∧
  (∀ (s : State) (i : BitVec 8) (rest : List PortOp), s.port = .rdfb i :: rest →
    step s = .next { s with port := rest } ∧
    (i.toNat < s.flen.val → answer s = some ((s.fbByte i.toNat).setWidth 64)))

/-- 70_reset_and_hazards.md R250: what RESET leaves, from every state; the port's rest and the draw are the model's
own fields (log entries 3, 8). -/
def Obligations.ResetLeavesTheResetColumn : Prop :=
  ∀ (s : State) (rest : List PortOp), s.port = .reset :: rest → ∃ t, step s = .next t ∧
    (∀ a : BitVec 5, rdReg t a = 0) ∧
    t.flen = 0 ∧ t.opstat = .ok ∧ t.fvalid = false ∧ t.ovf = false ∧ t.hdrvld = false ∧ t.cls = .none ∧
    t.subknown = false ∧ t.typ = 0 ∧ t.subtype = 0 ∧ t.seq = 0 ∧ t.acc = 0 ∧ t.accVld = false ∧ t.accDsel = 0 ∧
    t.rssi = 0 ∧ t.batt = 0 ∧ t.nibVld = false ∧ t.tsign = false ∧ t.tmag = 0 ∧ t.temp = 0 ∧ t.tVld = false ∧
    t.din = 0 ∧ t.port = rest ∧
    (∀ i : BitVec 8, rdFb t i = Config.unspecifiedByte t.draw i.toNat)

/-- The model's choice (log entry 7), from 60_exceptions.md R234 "Between commands it holds its state unchanged". -/
def Obligations.IdlePortHoldsTheState : Prop := ∀ s : State, s.port = [] → step s = .next s

/-- 20_memory.md R62: the state after a sequence is the fold of the step: a sequence cut in two gives the same as
its parts one after the other. -/
def Obligations.SequencesFoldTheStep : Prop :=
  ∀ (ops more : List PortOp) (s : State), ∃ t, afterOps ops s = .next t ∧ t.port = [] ∧
    afterOps (ops ++ more) s = afterOps more t

/-! ### The register space -/

/-- 10_state.md R39: each register of the map, its fields at the bits shown; the codes of OPSTAT and CLASS by their
numbers in 60_exceptions.md R222 and 10_state.md R28. -/
def Obligations.RegisterMapFields : Prop :=
  ∀ s : State,
    (rdReg s 0x00).toNat = statusNumber s.opstat ∧
    (rdReg s 0x01).toNat = s.fvalid.toNat + 2 * s.ovf.toNat + 4 * s.hdrvld.toNat + 8 * classNumber s.cls +
      32 * s.subknown.toNat ∧
    (rdReg s 0x02).toNat = s.flen.val ∧
    (rdReg s 0x03).toNat = s.typ.toNat ∧ (rdReg s 0x04).toNat = s.subtype.toNat ∧
    (rdReg s 0x05).toNat = s.seq.toNat ∧ (rdReg s 0x06).toNat = s.acc.toNat ∧
    (rdReg s 0x07).toNat = s.accVld.toNat + 2 * s.accDsel.toNat ∧
    (rdReg s 0x08).toNat = s.batt.toNat + 16 * s.rssi.toNat + 256 * s.nibVld.toNat ∧
    (rdReg s 0x09).toNat = s.tmag.toNat + 2 ^ 15 * s.tsign.toNat + 2 ^ 16 * s.temp.toNat + 2 ^ 32 * s.tVld.toNat ∧
    (rdReg s 0x0A).toNat = s.din.toNat ∧
    (∀ a : BitVec 5, 0x0B ≤ a.toNat → rdReg s a = 0)

/-- 10_state.md R40: reserved addresses and bits read as 0, without effect. -/
def Obligations.ReservedReadsAreZero : Prop :=
  ∀ s : State,
    (∀ a : BitVec 5, 0x0B ≤ a.toNat → rdReg s a = 0 ∧
      ∀ rest, s.port = .rdreg a :: rest → step s = .next { s with port := rest }) ∧
    (rdReg s 0x01).getLsbD 6 = false ∧ (rdReg s 0x01).getLsbD 7 = false

/-- 10_state.md R47, 60_exceptions.md R233: no register is hidden; RDREG of the whole map tells two states'
registers apart. -/
def Obligations.NoRegisterIsHidden : Prop :=
  ∀ s t : State, (∀ a : BitVec 5, rdReg s a = rdReg t a) → sameRegisters s t

/-! ### The commands, each rule whole -/

/-- 40_frame.md R101 (NOP). -/
def Obligations.NopRule : Prop :=
  ∀ (f : FieldsD) (s : State),
    (f = zeroD → exec (.nop f) s = .next { s with opstat := .ok }) ∧
    (f ≠ zeroD → exec (.nop f) s = .next (failed .badOperand s))

/-- 40_frame.md R102 (CLR): every register at its Reset value, FB as it was. -/
def Obligations.ClrRule : Prop :=
  ∀ (f : FieldsD) (s : State),
    (f = zeroD → exec (.clr f) s = .next
      { fb := s.fb, flen := 0, opstat := .ok, fvalid := false, ovf := false, hdrvld := false, cls := .none,
        subknown := false, typ := 0, subtype := 0, seq := 0, acc := 0, accVld := false, accDsel := 0, rssi := 0,
        batt := 0, nibVld := false, tsign := false, tmag := 0, temp := 0, tVld := false, din := 0,
        port := s.port, draw := s.draw }) ∧
    (f ≠ zeroD → exec (.clr f) s = .next (failed .badOperand s))

/-- 70_reset_and_hazards.md R251: CLR equals reset, FB as far as it is observable. -/
def Obligations.ClrEqualsReset : Prop :=
  ∀ s : State, ∃ t, exec (.clr zeroD) s = .next t ∧ sameObservable t State.reset

/-- 40_frame.md R103 (PUSH): the byte at FLEN, FLEN + 1, FVALID 0; OVERFLOW at FLEN = 256; frame: every other byte
and register as before. -/
def Obligations.PushRule : Prop :=
  ∀ (f : FieldsD) (s : State),
    (f.rsvd = 0 → f.imm.toNat < 256 → s.flen.val < 256 → ∃ t, exec (.push f) s = .next t ∧
      t.flen.val = s.flen.val + 1 ∧
      { t with fb := s.fb, flen := s.flen } = { s with fvalid := false, opstat := .ok } ∧
      ∀ a, t.fbByte a = if a = s.flen.val then BitVec.ofNat 8 f.imm.toNat else s.fbByte a) ∧
    (f.rsvd = 0 → f.imm.toNat < 256 → s.flen.val = 256 →
      exec (.push f) s = .next { s with ovf := true, fvalid := false, opstat := .overflow }) ∧
    (f.rsvd ≠ 0 ∨ 256 ≤ f.imm.toNat → exec (.push f) s = .next (failed .badOperand s))

/-- 40_frame.md R104 (LDIN). -/
def Obligations.LdinRule : Prop :=
  ∀ (f : FieldsD) (s : State),
    (f.rsvd = 0 → exec (.ldin f) s = .next { s with din := f.imm, opstat := .ok }) ∧
    (f.rsvd ≠ 0 → exec (.ldin f) s = .next (failed .badOperand s))

/-- 40_frame.md R105 (FINAL): FB[0] is FLEN − 1; after it FB[0] + 1 = FLEN. -/
def Obligations.FinalRule : Prop :=
  ∀ (f : FieldsX) (s : State),
    (f = zeroX → 1 ≤ s.flen.val → ∃ t, exec (.final f) s = .next t ∧ wroteFrame s t ∧
      (t.fbByte 0).toNat + 1 = s.flen.val ∧ ∀ a, a ≠ 0 → t.fbByte a = s.fbByte a) ∧
    (f = zeroX → s.flen.val = 0 → exec (.final f) s = .next (failed .truncated s)) ∧
    (f ≠ zeroX → exec (.final f) s = .next (failed .badOperand s))

/-- 44_dispatch.md R181, R182, R187 (DISPATCH): the checks in order, header capture and classification. -/
def Obligations.DispatchRule : Prop :=
  ∀ (f : FieldsX) (s : State),
    (f ≠ zeroX → exec (.dispatch f) s = .next (failed .badOperand s)) ∧
    (f = zeroX → s.ovf = true ∨ s.flen.val < 2 ∨ (s.fbByte 0).toNat + 1 ≠ s.flen.val →
      exec (.dispatch f) s = .next (failed .framing (headerCleared s))) ∧
    (f = zeroX → s.ovf = false → 2 ≤ s.flen.val → (s.fbByte 0).toNat + 1 = s.flen.val →
      exec (.dispatch f) s = .next
        (match registry (s.fbByte 1) with
          | none => failed .unknownType (headerCleared s)
          | some e => if s.flen.val < 4 then failed .truncated (headerCleared s) else headerCaptured e s)) ∧
    (∀ e, f = zeroX → s.ovf = false → 4 ≤ s.flen.val → (s.fbByte 0).toNat + 1 = s.flen.val →
      registry (s.fbByte 1) = some e → exec (.dispatch f) s = .next (headerCaptured e s))

/-- 44_dispatch.md R184, R189: an unknown subtype is not fatal: whatever SUBTYPE_KNOWN says of the subtype, a frame
of a registered type has the verdict "a result", and SUBKNOWN is what it says. -/
def Obligations.UnknownSubtypeIsNotFatal : Prop :=
  ∀ (s : State) (e : RegistryEntry), s.ovf = false → 4 ≤ s.flen.val →
    (s.fbByte 0).toNat + 1 = s.flen.val → registry (s.fbByte 1) = some e →
    ∃ t, exec (.dispatch zeroX) s = .next t ∧ t.opstat = .ok ∧ frameVerdict t = true ∧
      t.subknown = subtypeKnown (s.fbByte 1) (s.fbByte 2)

/-- 45_bitslice.md R201 (SLICE): bits [LSB+WID−1 : LSB] of the window's big-endian value. -/
def Obligations.SliceRule : Prop :=
  ∀ (f : FieldsX) (s : State),
    (sliceRow f → f.abs = false → f.off.toNat + f.nb.toNat ≤ s.flen.val →
      exec (.slice f) s = .next
        { s with
          acc := BitVec.ofNat 48
            (bigEndianSum s f.off.toNat f.nb.toNat / 2 ^ f.lsb.toNat % 2 ^ f.wid.toNat),
          accDsel := 0, accVld := true, opstat := .ok }) ∧
    (sliceRow f → f.abs = true → exec (.slice f) s = .next (failed .absent (accCleared s))) ∧
    (sliceRow f → f.abs = false → s.flen.val < f.off.toNat + f.nb.toNat →
      exec (.slice f) s = .next (failed .truncated { accCleared s with fvalid := false })) ∧
    (¬ sliceRow f → exec (.slice f) s = .next (failed .badOperand s))

/-- 42_be_integer.md R141 (UNPACK): the window's big-endian value, of 00_scope.md R10. -/
def Obligations.UnpackRule : Prop :=
  ∀ (f : FieldsX) (s : State),
    (unpackRow f → f.abs = false → f.off.toNat + f.nb.toNat ≤ s.flen.val →
      exec (.unpack f) s = .next
        { s with
          acc := BitVec.ofNat 48 (bigEndianSum s f.off.toNat f.nb.toNat), accDsel := f.dsel, accVld := true,
          opstat := .ok } ∧
      bigEndianSum s f.off.toNat f.nb.toNat < 2 ^ 48) ∧
    (unpackRow f → f.abs = true → exec (.unpack f) s = .next (failed .absent (accCleared s))) ∧
    (unpackRow f → f.abs = false → s.flen.val < f.off.toNat + f.nb.toNat →
      exec (.unpack f) s = .next (failed .truncated { accCleared s with fvalid := false })) ∧
    (¬ unpackRow f → exec (.unpack f) s = .next (failed .badOperand s))

/-- 43_nibble.md R161, R164 (NSPLIT): TAIL is the byte at FLEN − 1. -/
def Obligations.NsplitRule : Prop :=
  ∀ (f : FieldsX) (s : State),
    (nsplitRow f → f.abs = false → f.t = false → f.off.toNat + 1 ≤ s.flen.val →
      exec (.nsplit f) s = .next
        { s with
          rssi := BitVec.ofNat 4 ((s.fbByte f.off.toNat).toNat / 16),
          batt := BitVec.ofNat 4 ((s.fbByte f.off.toNat).toNat % 16), nibVld := true, opstat := .ok }) ∧
    (nsplitRow f → f.abs = false → f.t = true → 1 ≤ s.flen.val →
      exec (.nsplit f) s = .next
        { s with
          rssi := BitVec.ofNat 4 ((s.fbByte (s.flen.val - 1)).toNat / 16),
          batt := BitVec.ofNat 4 ((s.fbByte (s.flen.val - 1)).toNat % 16), nibVld := true, opstat := .ok }) ∧
    (nsplitRow f → f.abs = true → exec (.nsplit f) s = .next (failed .absent (nibCleared s))) ∧
    (nsplitRow f → f.abs = false →
      (f.t = false ∧ s.flen.val < f.off.toNat + 1) ∨ (f.t = true ∧ s.flen.val = 0) →
      exec (.nsplit f) s = .next (failed .truncated { nibCleared s with fvalid := false })) ∧
    (¬ nsplitRow f → exec (.nsplit f) s = .next (failed .badOperand s))

/-- 41_temperature.md R121 (TDEC): sign and magnitude of the two bytes, and the signed value. -/
def Obligations.TdecRule : Prop :=
  ∀ (f : FieldsX) (s : State),
    (tdecRow f → f.abs = false → f.off.toNat + 2 ≤ s.flen.val → ∃ t, exec (.tdec f) s = .next t ∧
      { t with tsign := s.tsign, tmag := s.tmag, temp := s.temp } = { s with tVld := true, opstat := .ok } ∧
      t.tsign = decide (128 ≤ (s.fbByte f.off.toNat).toNat) ∧
      t.tmag.toNat = (s.fbByte f.off.toNat).toNat % 128 * 256 + (s.fbByte (f.off.toNat + 1)).toNat ∧
      t.temp.toInt = if t.tsign = true then -(t.tmag.toNat : Int) else (t.tmag.toNat : Int)) ∧
    (tdecRow f → f.abs = true → exec (.tdec f) s = .next (failed .absent (tempCleared s))) ∧
    (tdecRow f → f.abs = false → s.flen.val < f.off.toNat + 2 →
      exec (.tdec f) s = .next (failed .truncated { tempCleared s with fvalid := false })) ∧
    (¬ tdecRow f → exec (.tdec f) s = .next (failed .badOperand s))

/-- 45_bitslice.md R202 (INSERT): the field's bits become DIN, every other bit of the window and every byte outside
it stays. -/
def Obligations.InsertRule : Prop :=
  ∀ (f : FieldsX) (s : State),
    (insertRow f → s.din.toNat < 2 ^ f.wid.toNat → f.off.toNat + f.nb.toNat ≤ s.flen.val →
      ∃ t, exec (.insert f) s = .next t ∧ wroteFrame s t ∧
        (∀ j, j < 8 * f.nb.toNat →
          (bigEndianSum t f.off.toNat f.nb.toNat).testBit j =
            if f.lsb.toNat ≤ j ∧ j < f.lsb.toNat + f.wid.toNat then s.din.toNat.testBit (j - f.lsb.toNat)
            else (bigEndianSum s f.off.toNat f.nb.toNat).testBit j) ∧
        ∀ a, a < f.off.toNat ∨ f.off.toNat + f.nb.toNat ≤ a → t.fbByte a = s.fbByte a) ∧
    (insertRow f → 2 ^ f.wid.toNat ≤ s.din.toNat → exec (.insert f) s = .next (failed .badOperand s)) ∧
    (insertRow f → s.din.toNat < 2 ^ f.wid.toNat → s.flen.val < f.off.toNat + f.nb.toNat →
      exec (.insert f) s = .next (failed .truncated s)) ∧
    (¬ insertRow f → exec (.insert f) s = .next (failed .badOperand s))

/-- 42_be_integer.md R143 (PACK): byte k of the window is byte k of DIN, most significant first. -/
def Obligations.PackRule : Prop :=
  ∀ (f : FieldsX) (s : State),
    (packRow f → s.din.toNat < 2 ^ (8 * f.nb.toNat) → f.off.toNat + f.nb.toNat ≤ s.flen.val →
      ∃ t, exec (.pack f) s = .next t ∧ wroteFrame s t ∧
        (∀ k, k < f.nb.toNat →
          (t.fbByte (f.off.toNat + k)).toNat = s.din.toNat / 2 ^ (8 * (f.nb.toNat - 1 - k)) % 256) ∧
        ∀ a, a < f.off.toNat ∨ f.off.toNat + f.nb.toNat ≤ a → t.fbByte a = s.fbByte a) ∧
    (packRow f → 2 ^ (8 * f.nb.toNat) ≤ s.din.toNat → exec (.pack f) s = .next (failed .badOperand s)) ∧
    (packRow f → s.din.toNat < 2 ^ (8 * f.nb.toNat) → s.flen.val < f.off.toNat + f.nb.toNat →
      exec (.pack f) s = .next (failed .truncated s)) ∧
    (¬ packRow f → exec (.pack f) s = .next (failed .badOperand s))

/-- 43_nibble.md R162, R164 (NPACK): the address is `nibbleAddress f s`, which its last clause gives. -/
def Obligations.NpackRule : Prop :=
  ∀ (f : FieldsX) (s : State),
    (npackRow f → s.din.toNat < 256 → (if f.t = true then 1 else f.off.toNat + 1) ≤ s.flen.val →
      ∃ t, exec (.npack f) s = .next t ∧ wroteFrame s t ∧
        ∀ a, (t.fbByte a).toNat =
          if a = nibbleAddress f s then s.din.toNat / 16 * 16 + s.din.toNat % 16 else (s.fbByte a).toNat) ∧
    (npackRow f → 256 ≤ s.din.toNat → exec (.npack f) s = .next (failed .badOperand s)) ∧
    (npackRow f → s.din.toNat < 256 → s.flen.val < (if f.t = true then 1 else f.off.toNat + 1) →
      exec (.npack f) s = .next (failed .truncated s)) ∧
    (¬ npackRow f → exec (.npack f) s = .next (failed .badOperand s)) ∧
    nibbleAddress f s = (if f.t = true then s.flen.val - 1 else f.off.toNat)

/-- 41_temperature.md R123 (TENC): sign and magnitude of DIN read as two's complement tenths. -/
def Obligations.TencRule : Prop :=
  ∀ (f : FieldsX) (s : State),
    (tencRow f → -32767 ≤ s.din.toInt → s.din.toInt ≤ 32767 → (f.t = true → s.din.toInt = 0) →
      f.off.toNat + 2 ≤ s.flen.val → ∃ t, exec (.tenc f) s = .next t ∧ wroteFrame s t ∧
        ∀ a, (t.fbByte a).toNat =
          if a = f.off.toNat then
            (if s.din.toInt < 0 ∨ f.t = true then 128 else 0) + s.din.toInt.natAbs / 256
          else if a = f.off.toNat + 1 then s.din.toInt.natAbs % 256
          else (s.fbByte a).toNat) ∧
    (tencRow f → s.din.toInt < -32767 ∨ 32767 < s.din.toInt ∨ (f.t = true ∧ s.din.toInt ≠ 0) →
      exec (.tenc f) s = .next (failed .badOperand s)) ∧
    (tencRow f → -32767 ≤ s.din.toInt → s.din.toInt ≤ 32767 → (f.t = true → s.din.toInt = 0) →
      s.flen.val < f.off.toNat + 2 → exec (.tenc f) s = .next (failed .truncated s)) ∧
    (¬ tencRow f → exec (.tenc f) s = .next (failed .badOperand s))

/-- 30_encoding.md R75: OPC 0xE and 0xF write OPSTAT and nothing else, whatever the other bits. -/
def Obligations.ReservedOpcodesAreIllegal : Prop :=
  ∀ (rest : BitVec 60) (s : State),
    decode ((0xE : BitVec 4) ++ rest) = .reservedE rest ∧ decode ((0xF : BitVec 4) ++ rest) = .reservedF rest ∧
    exec (.reservedE rest) s = .next { s with opstat := .illegalOp } ∧
    exec (.reservedF rest) s = .next { s with opstat := .illegalOp }

/-! ### Round trips -/

/-- 41_temperature.md R124: TDEC and TENC are exact inverses, on every pair of bytes and on every value. -/
def Obligations.TemperatureRoundTrip : Prop :=
  (∀ (s : State) (off : BitVec 8), off.toNat + 2 ≤ s.flen.val →
    ∃ s1 s2 s3, exec (.tdec { zeroX with off := off, nb := 2 }) s = .next s1 ∧
      exec (.ldin { rsvd := 0, imm := BitVec.ofInt 48 s1.temp.toInt }) s1 = .next s2 ∧
      exec (.tenc { zeroX with off := off, nb := 2, t := s1.tsign && decide (s1.tmag = 0) }) s2 = .next s3 ∧
      s3.opstat = .ok ∧ ∀ a, s3.fbByte a = s.fbByte a) ∧
  (∀ (s : State) (off : BitVec 8) (nz : Bool), off.toNat + 2 ≤ s.flen.val →
    -32767 ≤ s.din.toInt → s.din.toInt ≤ 32767 → (nz = true → s.din.toInt = 0) →
    ∃ s1 s2, exec (.tenc { zeroX with off := off, nb := 2, t := nz }) s = .next s1 ∧
      exec (.tdec { zeroX with off := off, nb := 2 }) s1 = .next s2 ∧
      s2.tVld = true ∧ s2.temp.toInt = s.din.toInt ∧ s2.tsign = (decide (s.din.toInt < 0) || nz))

/-- 42_be_integer.md R144: UNPACK and PACK are exact inverses on every window inside the frame. -/
def Obligations.IntegerRoundTrip : Prop :=
  (∀ (s : State) (off : BitVec 8) (nb : BitVec 3), 1 ≤ nb.toNat → nb.toNat ≤ 6 →
    off.toNat + nb.toNat ≤ s.flen.val →
    ∃ s1 s2 s3, exec (.unpack { zeroX with off := off, nb := nb }) s = .next s1 ∧
      exec (.ldin { rsvd := 0, imm := s1.acc }) s1 = .next s2 ∧
      exec (.pack { zeroX with off := off, nb := nb }) s2 = .next s3 ∧
      s3.opstat = .ok ∧ ∀ a, s3.fbByte a = s.fbByte a) ∧
  (∀ (s : State) (off : BitVec 8) (nb : BitVec 3) (d : BitVec 4), 1 ≤ nb.toNat → nb.toNat ≤ 6 →
    off.toNat + nb.toNat ≤ s.flen.val → s.din.toNat < 2 ^ (8 * nb.toNat) → divtab d ≠ none →
    ∃ s1 s2, exec (.pack { zeroX with off := off, nb := nb }) s = .next s1 ∧
      exec (.unpack { zeroX with off := off, nb := nb, dsel := d }) s1 = .next s2 ∧
      s2.accVld = true ∧ s2.acc = s.din)

/-- 43_nibble.md R163: NSPLIT and NPACK are exact inverses, at an offset and at the tail. -/
def Obligations.NibbleRoundTrip : Prop :=
  (∀ (s : State) (off : BitVec 8) (tail : Bool), (tail = true → off = 0) →
    (if tail = true then 1 else off.toNat + 1) ≤ s.flen.val →
    ∃ s1 s2 s3, exec (.nsplit { zeroX with off := off, nb := 1, t := tail }) s = .next s1 ∧
      exec (.ldin { rsvd := 0, imm := BitVec.ofNat 48 (s1.rssi.toNat * 16 + s1.batt.toNat) }) s1 = .next s2 ∧
      exec (.npack { zeroX with off := off, nb := 1, t := tail }) s2 = .next s3 ∧
      s3.opstat = .ok ∧ ∀ a, s3.fbByte a = s.fbByte a) ∧
  (∀ (s : State) (off : BitVec 8) (tail : Bool) (r b : BitVec 4), (tail = true → off = 0) →
    (if tail = true then 1 else off.toNat + 1) ≤ s.flen.val →
    ∃ s1 s2 s3, exec (.ldin { rsvd := 0, imm := BitVec.ofNat 48 (r.toNat * 16 + b.toNat) }) s = .next s1 ∧
      exec (.npack { zeroX with off := off, nb := 1, t := tail }) s1 = .next s2 ∧
      exec (.nsplit { zeroX with off := off, nb := 1, t := tail }) s2 = .next s3 ∧
      s3.nibVld = true ∧ s3.rssi = r ∧ s3.batt = b)

/-- 45_bitslice.md R203: SLICE and INSERT are exact inverses, and INSERT leaves every disjoint field alone. -/
def Obligations.BitFieldRoundTrip : Prop :=
  (∀ (s : State) (f : FieldsX), insertRow f → f.off.toNat + f.nb.toNat ≤ s.flen.val →
    ∃ s1 s2 s3, exec (.slice f) s = .next s1 ∧ exec (.ldin { rsvd := 0, imm := s1.acc }) s1 = .next s2 ∧
      exec (.insert f) s2 = .next s3 ∧ s3.opstat = .ok ∧ ∀ a, s3.fbByte a = s.fbByte a) ∧
  (∀ (s : State) (f : FieldsX), insertRow f → f.off.toNat + f.nb.toNat ≤ s.flen.val →
    s.din.toNat < 2 ^ f.wid.toNat →
    ∃ s1 s2, exec (.insert f) s = .next s1 ∧ exec (.slice f) s1 = .next s2 ∧ s2.accVld = true ∧
      s2.acc = s.din ∧
      ∀ lsb wid : BitVec 6, insertRow { f with lsb := lsb, wid := wid } →
        (lsb.toNat + wid.toNat ≤ f.lsb.toNat ∨ f.lsb.toNat + f.wid.toNat ≤ lsb.toNat) →
        ∃ u v, exec (.slice { f with lsb := lsb, wid := wid }) s = .next u ∧
          exec (.slice { f with lsb := lsb, wid := wid }) s1 = .next v ∧ u.acc = v.acc)

/-! ### Rules over all commands -/

/-- 30_encoding.md R76, R83, 60_exceptions.md R221 (a), R223: a field outside its row comes before every check that
reads state, and only OPSTAT is written. -/
def Obligations.IllFormedWordsWriteOnlyOpstat : Prop :=
  ∀ (i : Instr) (s : State), i.wellFormed = false → exec i s = .next { s with opstat := .badOperand }

/-- 60_exceptions.md R222, column "Raised by": the codes each command can end with. -/
def Obligations.EachCommandRaisesOnlyItsCodes : Prop :=
  ∀ (i : Instr) (s t : State), exec i s = .next t → t.opstat ∈ statusesOf i

/-- 60_exceptions.md R221: the failure clears of every failure, and nothing else. -/
def Obligations.FailureClearsAreExact : Prop :=
  ∀ (i : Instr) (s t : State), exec i s = .next t →
    (t.opstat = .illegalOp ∨ t.opstat = .badOperand → t = { s with opstat := t.opstat }) ∧
    (t.opstat = .absent → readsField i = true ∧ t = failed .absent (groupCleared i s)) ∧
    (t.opstat = .truncated → readsField i = true →
      t = failed .truncated { groupCleared i s with fvalid := false }) ∧
    (t.opstat = .truncated → readsField i = false → isDispatch i = false → t = failed .truncated s) ∧
    (t.opstat = .framing ∨ t.opstat = .unknownType ∨ (t.opstat = .truncated ∧ isDispatch i = true) →
      isDispatch i = true ∧ t = failed t.opstat (headerCleared s)) ∧
    (t.opstat = .overflow → isPush i = true ∧ t = { s with ovf := true, fvalid := false, opstat := .overflow })

/-- 20_memory.md R58, 60_exceptions.md R225: a command that fails writes no FB byte. -/
def Obligations.FailedCommandsWriteNoFrameByte : Prop :=
  ∀ (i : Instr) (s t : State), exec i s = .next t → t.opstat ≠ .ok →
    t.fb = s.fb ∧ t.flen = s.flen ∧ t.din = s.din

/-- 10_state.md R26: FVALID is set only by a DISPATCH that ends OK, cleared by the events listed, and changed by
nothing else. -/
def Obligations.VerdictChangesOnlyAsListed : Prop :=
  (∀ (i : Instr) (s t : State), exec i s = .next t →
    t.fvalid =
      if isDispatch i = true ∧ t.opstat = .ok then true
      else if (isDispatch i = true ∧ t.opstat ≠ .badOperand) ∨ (readsField i = true ∧ t.opstat = .truncated) ∨
        (writesFb i = true ∧ t.opstat = .ok) ∨ t.opstat = .overflow ∨ (isClr i = true ∧ t.opstat = .ok) then false
      else s.fvalid) ∧
  (∀ (s : State) (rest : List PortOp), s.port = .reset :: rest → ∃ t, step s = .next t ∧ t.fvalid = false)

/-- 10_state.md R27: HDRVLD after a command and after RESET. -/
def Obligations.HeaderValidChangesOnlyAsListed : Prop :=
  (∀ (i : Instr) (s t : State), exec i s = .next t →
    t.hdrvld =
      if isDispatch i = true ∧ t.opstat = .ok then true
      else if (isDispatch i = true ∧ t.opstat ≠ .badOperand) ∨ (isClr i = true ∧ t.opstat = .ok) then false
      else s.hdrvld) ∧
  (∀ (s : State) (rest : List PortOp), s.port = .reset :: rest → ∃ t, step s = .next t ∧ t.hdrvld = false)

/-- 10_state.md R22: only PUSH increments FLEN, only CLR and reset set it to 0, nothing else changes it. -/
def Obligations.FrameLengthChangesOnlyAsListed : Prop :=
  (∀ (i : Instr) (s t : State), exec i s = .next t →
    t.flen.val =
      if isPush i = true ∧ t.opstat = .ok then s.flen.val + 1
      else if isClr i = true ∧ t.opstat = .ok then 0
      else s.flen.val) ∧
  (∀ s : State, s.flen.val ≤ 256) ∧
  (∀ (s : State) (rest : List PortOp), s.port = .reset :: rest → ∃ t, step s = .next t ∧ t.flen.val = 0)

/-- 10_state.md R23: OVF is set by a PUSH at FLEN = 256, cleared only by CLR and reset, and makes DISPATCH report
FRAMING. -/
def Obligations.OverflowIsStickyUntilClr : Prop :=
  (∀ (i : Instr) (s t : State), exec i s = .next t →
    t.ovf =
      if t.opstat = .overflow then true else if isClr i = true ∧ t.opstat = .ok then false else s.ovf) ∧
  (∀ (b : Byte) (s : State), s.flen.val = 256 →
    ∃ t, exec (.push { rsvd := 0, imm := b.setWidth 48 }) s = .next t ∧ t.ovf = true ∧ t.opstat = .overflow) ∧
  (∀ s : State, s.ovf = true → ∃ t, exec (.dispatch zeroX) s = .next t ∧ t.opstat = .framing) ∧
  (∀ (s : State) (rest : List PortOp), s.port = .reset :: rest → ∃ t, step s = .next t ∧ t.ovf = false)

/-- 10_state.md R44, the dashes of all nine columns of the write matrix: which state each command leaves alone on
every outcome. The last clause is about the model's own fields port and draw (log entries 1 and 3). -/
def Obligations.WriteMatrixDashes : Prop :=
  ∀ (i : Instr) (s t : State), exec i s = .next t →
    (writesFb i = false → t.fb = s.fb) ∧
    (isClr i = false → isPush i = false → t.flen = s.flen ∧ t.ovf = s.ovf) ∧
    (leavesVerdict i = true → t.fvalid = s.fvalid) ∧
    (isClr i = false → isDispatch i = false →
      t.hdrvld = s.hdrvld ∧ t.typ = s.typ ∧ t.subtype = s.subtype ∧ t.seq = s.seq ∧ t.cls = s.cls ∧
        t.subknown = s.subknown) ∧
    (isClr i = false → (∀ f, i ≠ .slice f) → (∀ f, i ≠ .unpack f) →
      t.acc = s.acc ∧ t.accVld = s.accVld ∧ t.accDsel = s.accDsel) ∧
    (isClr i = false → (∀ f, i ≠ .nsplit f) →
      t.rssi = s.rssi ∧ t.batt = s.batt ∧ t.nibVld = s.nibVld) ∧
    (isClr i = false → (∀ f, i ≠ .tdec f) →
      t.tsign = s.tsign ∧ t.tmag = s.tmag ∧ t.temp = s.temp ∧ t.tVld = s.tVld) ∧
    (isClr i = false → (∀ f, i ≠ .ldin f) → t.din = s.din) ∧
    t.port = s.port ∧ t.draw = s.draw

/-- 10_state.md R37: whenever a command clears a valid bit, every register of that group is 0 after it. -/
def Obligations.ClearedValidBitClearsItsGroup : Prop :=
  ∀ (i : Instr) (s t : State), exec i s = .next t →
    (s.hdrvld = true → t.hdrvld = false →
      t.typ = 0 ∧ t.subtype = 0 ∧ t.seq = 0 ∧ t.cls = .none ∧ t.subknown = false) ∧
    (s.accVld = true → t.accVld = false → t.acc = 0 ∧ t.accDsel = 0) ∧
    (s.nibVld = true → t.nibVld = false → t.rssi = 0 ∧ t.batt = 0) ∧
    (s.tVld = true → t.tVld = false → t.tsign = false ∧ t.tmag = 0 ∧ t.temp = 0)

/-- 20_memory.md R59: every command but PUSH is idempotent on FB, and repeating a reading command gives the same
result. -/
def Obligations.RepeatedCommandsAreIdempotent : Prop :=
  ∀ (i : Instr) (s t u : State), exec i s = .next t → exec i t = .next u →
    (isPush i = false → ∀ a, u.fbByte a = t.fbByte a) ∧ (readsField i = true → u = t)

/-- 10_state.md R42, R43: no command's result depends on a byte outside the frame: states that differ there only go
to states that differ there only. -/
def Obligations.BytesOutsideTheFrameNeverMatter : Prop :=
  ∀ (i : Instr) (s t s' t' : State), sameObservable s t → exec i s = .next s' → exec i t = .next t' →
    sameObservable s' t'

/-! ### The invariant -/

/-- 70_reset_and_hazards.md R250: the reset state meets the invariant. -/
def Obligations.ResetMeetsTheInvariant : Prop := State.Inv State.reset

/-- 10_state.md R23, R26, R27, R34, R37, R42: every step keeps the invariant, from every state that meets it. -/
def Obligations.EveryStepKeepsTheInvariant : Prop :=
  ∀ s t : State, State.Inv s → step s = .next t → State.Inv t

/-! ### Whole frames -/

/-- 40_frame.md R106: CLR and one PUSH per byte present a buffer of up to 256 bytes as the frame. -/
def Obligations.LoadedBufferIsTheFrame : Prop :=
  ∀ (bytes : List Byte) (s : State), bytes.length ≤ 256 →
    ∃ t, afterOps (.cmd (encode (.clr zeroD)) ::
        bytes.map fun b => PortOp.cmd (encode (.push { rsvd := 0, imm := b.setWidth 48 }))) s = .next t ∧
      t.opstat = .ok ∧ t.ovf = false ∧ frameBytes t = bytes

/-- 44_dispatch.md R180 to R183, R186 (the source's contract of §4.2): after a buffer of ANY length is loaded and
dispatched, from any state, the verdict is that of the contract. -/
def Obligations.DispatchVerdictIsTheContract : Prop :=
  ∀ (bytes : List Byte) (s : State),
    ∃ t, afterOps (loadAndDispatch bytes) s = .next t ∧ frameVerdict t = contractAccepts bytes

/-! ### Configuration and observations -/

/-- 00_scope.md R6, R7: the fixed entries of the tables, and the constraints on all of them, in every
configuration. -/
def Obligations.ConfigurationMeetsItsConstraints : Prop :=
  registry 0x10 = some { status := false, sensor := false } ∧
  registry 0x55 = some { status := false, sensor := true } ∧
  (∃ e, registry 0x20 = some e) ∧ subtypeKnown 0x55 0x02 = true ∧
  (divtab 0).map divisorValue = some 1 ∧ (divtab 1).map divisorValue = some 10 ∧
  (divtab 2).map divisorValue = some 100 ∧ (divtab 3).map divisorValue = some (223666 / 1000) ∧
  (∃ statusFamily : Option Byte, ∀ c : Byte,
    (∃ e, registry c = some e ∧ e.status = true) ↔ statusFamily = some c) ∧
  (∀ c e, registry c = some e → ¬ (e.status = true ∧ e.sensor = true)) ∧
  (∀ d v, divtab d = some v → 0 < divisorValue v)

/-- 42_be_integer.md R142: the scaled value is the exact rational ACC / DIVTAB[ACC_DSEL]. -/
def Obligations.ScaledValueIsExact : Prop :=
  ∀ s : State, s.accVld = true →
    (∀ v, divtab s.accDsel = some v →
      ∃ q, scaledValue s = some q ∧ q * (v.num : Rat) = (s.acc.toNat : Rat) * (v.den : Rat)) ∧
    (s.accDsel = 0 → scaledValue s = some (s.acc.toNat : Rat)) ∧
    (s.accDsel = 3 → scaledValue s = some ((s.acc.toNat : Rat) * 1000 / 223666))

/-- 41_temperature.md R121, R122, R125: the physical temperature of two bytes after TDEC, and negative zero. -/
def Obligations.DecodedTemperatureInTenths : Prop :=
  ∀ (s : State) (off : BitVec 8), off.toNat + 2 ≤ s.flen.val →
    ∃ t, exec (.tdec { zeroX with off := off, nb := 2 }) s = .next t ∧
      physicalTemperature t =
        some ((if 128 ≤ (s.fbByte off.toNat).toNat then -1 else 1) *
          (((s.fbByte off.toNat).toNat % 128 * 256 + (s.fbByte (off.toNat + 1)).toNat : Nat) : Rat) / 10) ∧
      (isNegativeZero t = true ↔
        (s.fbByte off.toNat).toNat = 128 ∧ (s.fbByte (off.toNat + 1)).toNat = 0)

/-! ### The assembler -/

/-- 30_encoding.md R85: the pseudo-instructions' words, for every operand that fits its field. -/
def Obligations.PseudoInstructionsExpand : Prop :=
  (∀ (off : BitVec 8) (n : BitVec 6),
    assembleLines (expandPseudo (.rdb off.toNat)) =
      .ok [encode (.slice { zeroX with off := off, nb := 1, lsb := 0, wid := 8 })] ∧
    assembleLines (expandPseudo (.bit off.toNat n.toNat)) =
      .ok [encode (.slice { zeroX with off := off, nb := 1, lsb := n, wid := 1 })] ∧
    assembleLines (expandPseudo (.hinib off.toNat)) =
      .ok [encode (.slice { zeroX with off := off, nb := 1, lsb := 4, wid := 4 })] ∧
    assembleLines (expandPseudo (.lonib off.toNat)) =
      .ok [encode (.slice { zeroX with off := off, nb := 1, lsb := 0, wid := 4 })]) ∧
  (∀ (off : BitVec 8) (nb : BitVec 3) (lsb wid : BitVec 6) (v : BitVec 48),
    assembleLines (expandPseudo (.wrb off.toNat v.toNat)) =
      .ok [encode (.ldin { rsvd := 0, imm := v }), encode (.pack { zeroX with off := off, nb := 1 })] ∧
    assembleLines (expandPseudo (.zero off.toNat nb.toNat)) =
      .ok [encode (.ldin zeroD), encode (.pack { zeroX with off := off, nb := nb })] ∧
    assembleLines (expandPseudo (.setf off.toNat nb.toNat lsb.toNat wid.toNat v.toNat)) =
      .ok [encode (.ldin { rsvd := 0, imm := v }),
        encode (.insert { zeroX with off := off, nb := nb, lsb := lsb, wid := wid })]) ∧
  (∀ bytes : List Byte,
    assembleLines (expandPseudo (.loadframe (bytes.map fun b => (b.toNat : Int)))) =
      .ok (encode (.clr zeroD) :: bytes.map fun b => encode (.push { rsvd := 0, imm := b.setWidth 48 }))) ∧
  (∀ n : Nat, assembleLines (expandPseudo (.newframe n)) =
    .ok (encode (.clr zeroD) :: List.replicate n (encode (.push zeroD))))

/-- 30_encoding.md R84, every row of its table: a line is the command with the fields the table sets exactly when
every operand fits its field, and is refused otherwise; then each spelling of a line, with its suffixes and the
default of DSEL, reads as that line. LDIN's range −2^47 ≤ v < 2^48 is the model's reading (log entry 13). -/
def Obligations.AssemblerRefusesWhatDoesNotFit : Prop :=
  (∀ l : CoreLine,
    (lineFits l → assembleCore l = .ok (lineCommand l)) ∧
    (¬ lineFits l → assembleCore l = .error .doesNotFit)) ∧
  (readLineCommand "NOP" [] [] = .ok [.nop] ∧ readLineCommand "CLR" [] [] = .ok [.clr] ∧
    readLineCommand "DISPATCH" [] [] = .ok [.dispatch] ∧ readLineCommand "FINAL" [] [] = .ok [.final] ∧
    readLineCommand "NSPLIT" ["T"] [] = .ok [.nsplitTail false] ∧
    readLineCommand "NSPLIT" ["T", "ABS"] [] = .ok [.nsplitTail true] ∧
    readLineCommand "NPACK" ["T"] [] = .ok [.npackTail]) ∧
  (∀ v : Int,
    readLineCommand "PUSH" [] [v] = .ok [.push v] ∧ readLineCommand "LDIN" [] [v] = .ok [.ldin v] ∧
    readLineCommand "NSPLIT" [] [v] = .ok [.nsplit false v] ∧
    readLineCommand "NSPLIT" ["ABS"] [v] = .ok [.nsplit true v] ∧
    readLineCommand "TDEC" [] [v] = .ok [.tdec false v] ∧
    readLineCommand "TDEC" ["ABS"] [v] = .ok [.tdec true v] ∧
    readLineCommand "NPACK" [] [v] = .ok [.npack v] ∧
    readLineCommand "TENC" [] [v] = .ok [.tenc false v] ∧
    readLineCommand "TENC" ["NZ"] [v] = .ok [.tenc true v]) ∧
  (∀ off nb x y : Int,
    readLineCommand "SLICE" [] [off, nb, x, y] = .ok [.slice false off nb x y] ∧
    readLineCommand "SLICE" ["ABS"] [off, nb, x, y] = .ok [.slice true off nb x y] ∧
    readLineCommand "INSERT" [] [off, nb, x, y] = .ok [.insert off nb x y] ∧
    readLineCommand "PACK" [] [off, nb] = .ok [.pack off nb] ∧
    readLineCommand "UNPACK" [] [off, nb] = .ok [.unpack false off nb 0] ∧
    readLineCommand "UNPACK" [] [off, nb, x] = .ok [.unpack false off nb x] ∧
    readLineCommand "UNPACK" ["ABS"] [off, nb] = .ok [.unpack true off nb 0] ∧
    readLineCommand "UNPACK" ["ABS"] [off, nb, x] = .ok [.unpack true off nb x])
end

