-- ==== Sys2Proof/Laws/Memory.lean ====
section
/-! SUPPORT. The laws of FB as a canonical list: read after write, and that every operation keeps the form. -/

namespace Sys2Proof.Machine

@[simp] theorem Memory.lookup_nil (a : Nat) : Memory.lookup [] a = none := rfl

/-- Read after write: the byte written, and every other index as before. -/
@[simp] theorem Memory.lookup_write (m : Memory) (a : Nat) (b : Byte) (c : Nat) :
    Memory.lookup (Memory.write m a b) c = if c = a then some b else Memory.lookup m c := by
  induction m with
  | nil => simp [Memory.write, Memory.lookup]
  | cons p m ih =>
    obtain ⟨k, v⟩ := p
    simp only [Memory.write]
    split
    · simp [Memory.lookup]
    · split
      · subst_vars; simp only [Memory.lookup]; split <;> rfl
      · simp only [Memory.lookup, ih]
        split
        · subst_vars; rw [if_neg (fun h => by simp_all)]
        · rfl

theorem Memory.lookup_writeBytes (m : Memory) (o : Nat) (bs : List Byte) (a : Nat) :
    Memory.lookup (Memory.writeBytes m o bs) a =
      if o ≤ a ∧ a < o + bs.length then bs[a - o]? else Memory.lookup m a := by
  induction bs generalizing m o with
  | nil => simp [Memory.writeBytes]
  | cons b bs ih =>
    simp only [Memory.writeBytes, ih, Memory.lookup_write, List.length_cons]
    by_cases h : a = o
    · subst h; simp
    · by_cases h1 : o + 1 ≤ a ∧ a < o + 1 + bs.length
      · rw [if_pos h1, if_pos (by omega), show a - o = (a - (o + 1)) + 1 by omega]; simp
      · rw [if_neg h1, if_neg h, if_neg (by omega)]

theorem Memory.wfFrom_mono {lo hi : Nat} (h : lo ≤ hi) {m : Memory} (hm : Memory.wfFrom hi m = true) :
    Memory.wfFrom lo m = true := by
  cases m with
  | nil => rfl
  | cons p m =>
    obtain ⟨k, v⟩ := p
    simp only [Memory.wfFrom, Bool.and_eq_true, decide_eq_true_eq] at hm ⊢
    exact ⟨⟨Nat.le_trans h hm.1.1, hm.1.2⟩, hm.2⟩

theorem Memory.wfFrom_write {lo a : Nat} (b : Byte) {m : Memory} (hlo : lo ≤ a) (ha : a < 256)
    (hm : Memory.wfFrom lo m = true) : Memory.wfFrom lo (Memory.write m a b) = true := by
  induction m generalizing lo with
  | nil => simp [Memory.write, Memory.wfFrom, hlo, ha]
  | cons p m ih =>
    obtain ⟨k, v⟩ := p
    simp only [Memory.wfFrom, Bool.and_eq_true, decide_eq_true_eq] at hm
    simp only [Memory.write]
    split
    · simp only [Memory.wfFrom, Bool.and_eq_true, decide_eq_true_eq]
      exact ⟨⟨hlo, ha⟩, ⟨by omega, hm.1.2⟩, hm.2⟩
    · split
      · subst_vars
        simp only [Memory.wfFrom, Bool.and_eq_true, decide_eq_true_eq]
        exact ⟨⟨hlo, ha⟩, hm.2⟩
      · simp only [Memory.wfFrom, Bool.and_eq_true, decide_eq_true_eq]
        exact ⟨hm.1, ih (by omega) hm.2⟩

/-- A write to an index of FB keeps the canonical form. -/
theorem Memory.wf_write {m : Memory} {a : Nat} (b : Byte) (ha : a < 256) (hm : Memory.wf m = true) :
    Memory.wf (Memory.write m a b) = true :=
  Memory.wfFrom_write b (Nat.zero_le a) ha hm

/-- A write of a window of FB keeps the canonical form. -/
theorem Memory.wf_writeBytes {m : Memory} {o : Nat} (bs : List Byte) (ho : o + bs.length ≤ 256)
    (hm : Memory.wf m = true) : Memory.wf (Memory.writeBytes m o bs) = true := by
  induction bs generalizing m o with
  | nil => exact hm
  | cons b bs ih =>
    simp only [List.length_cons] at ho
    exact ih (by omega) (Memory.wf_write b (by omega) hm)

/-- Reset's memory has the canonical form. -/
theorem Memory.wf_reset : Memory.wf State.reset.fb = true := rfl

theorem Memory.lookup_eq_none_of_wfFrom {lo a : Nat} {m : Memory} (h : a < lo)
    (hm : Memory.wfFrom lo m = true) : Memory.lookup m a = none := by
  induction m generalizing lo with
  | nil => rfl
  | cons p m ih =>
    obtain ⟨k, v⟩ := p
    simp only [Memory.wfFrom, Bool.and_eq_true, decide_eq_true_eq] at hm
    simp only [Memory.lookup]
    rw [if_neg (by omega), ih (lo := k + 1) (by omega) hm.2]

/-- Canonical memories that read alike are the same data. -/
theorem Memory.ext_of_wfFrom {lo : Nat} {m n : Memory} (hm : Memory.wfFrom lo m = true)
    (hn : Memory.wfFrom lo n = true) (h : ∀ a, Memory.lookup m a = Memory.lookup n a) : m = n := by
  induction m generalizing lo n with
  | nil =>
    cases n with
    | nil => rfl
    | cons q n => have := h q.1; simp [Memory.lookup] at this
  | cons p m ih =>
    obtain ⟨k, v⟩ := p
    cases n with
    | nil => have := h k; simp [Memory.lookup] at this
    | cons q n =>
      obtain ⟨j, w⟩ := q
      simp only [Memory.wfFrom, Bool.and_eq_true, decide_eq_true_eq] at hm hn
      have hk : Memory.lookup ((k, v) :: m) k = some v := by simp [Memory.lookup]
      have hj : Memory.lookup ((j, w) :: n) j = some w := by simp [Memory.lookup]
      have hkj : k = j := by
        rcases Nat.lt_trichotomy k j with hlt | rfl | hgt
        · rw [h k, Memory.lookup, if_neg (by omega),
            Memory.lookup_eq_none_of_wfFrom (lo := j + 1) (by omega) hn.2] at hk
          cases hk
        · rfl
        · rw [← h j, Memory.lookup, if_neg (by omega),
            Memory.lookup_eq_none_of_wfFrom (lo := k + 1) (by omega) hm.2] at hj
          cases hj
      subst hkj
      have hvw : v = w := by
        have := h k
        rw [hk, hj] at this
        exact Option.some.inj this
      subst hvw
      congr 1
      refine ih hm.2 hn.2 fun a => ?_
      have ha := h a
      simp only [Memory.lookup] at ha
      split at ha
      · subst_vars
        rw [Memory.lookup_eq_none_of_wfFrom (lo := a + 1) (by omega) hm.2,
          Memory.lookup_eq_none_of_wfFrom (lo := a + 1) (by omega) hn.2]
      · exact ha

end Sys2Proof.Machine
end

