-- ==== Sys2Proof/Laws/Bytes.lean ====
section
/-! SUPPORT. What a byte and a window of FB read as after a store, and the big-endian value of a window. -/

namespace Sys2Proof.Machine

@[simp] theorem setByte_fbByte (s : State) (a : Nat) (b : Byte) (c : Nat) :
    (s.setByte a b).fbByte c = if c = a then b else s.fbByte c := by
  simp only [State.setByte, State.fbByte, Memory.lookup_write]
  split <;> rfl

@[simp] theorem bytesBE_length (v n : Nat) : (bytesBE v n).length = n := by
  induction n with
  | zero => rfl
  | succ n ih => simp [bytesBE, ih]

/-- Byte k of `BYTES_BE(v, n)` (00_scope.md R10). -/
theorem bytesBE_getElem? (v n k : Nat) (h : k < n) :
    (bytesBE v n)[k]? = some (BitVec.ofNat 8 (v >>> (8 * (n - 1 - k)))) := by
  induction n generalizing k with
  | zero => omega
  | succ n ih =>
    cases k with
    | zero => simp [bytesBE]
    | succ k =>
      simp only [bytesBE, List.getElem?_cons_succ]
      rw [ih k (by omega)]
      congr 4; omega

/-- A window store: byte k of the value inside the window, every other byte as before. -/
theorem memWrite_fbByte (s : State) (o n v a : Nat) :
    (memWrite s o n v).fbByte a =
      if o ≤ a ∧ a < o + n then BitVec.ofNat 8 (v >>> (8 * (n - 1 - (a - o)))) else s.fbByte a := by
  simp only [memWrite, State.fbByte, Memory.lookup_writeBytes, bytesBE_length]
  split
  · rw [bytesBE_getElem? v n (a - o) (by omega)]; rfl
  · rfl

@[simp] theorem beValue_zero (s : State) (o : Nat) : s.beValue o 0 = 0 := rfl

theorem beValue_succ (s : State) (o n : Nat) :
    s.beValue o (n + 1) = (s.fbByte o).toNat * 2 ^ (8 * n) + s.beValue (o + 1) n := by
  simp [State.beValue, Nat.shiftLeft_eq]

/-- The value of a window depends on the bytes of the window alone. -/
theorem beValue_congr {s t : State} {o n : Nat} (h : ∀ a, o ≤ a → a < o + n → s.fbByte a = t.fbByte a) :
    s.beValue o n = t.beValue o n := by
  induction n generalizing o with
  | zero => rfl
  | succ n ih =>
    rw [beValue_succ, beValue_succ, h o (by omega) (by omega),
      ih fun a h1 h2 => h a (by omega) (by omega)]

/-- `BE` of n bytes is below 2^(8n) (00_scope.md R10). -/
theorem beValue_lt (s : State) (o n : Nat) : s.beValue o n < 2 ^ (8 * n) := by
  induction n generalizing o with
  | zero => simp
  | succ n ih =>
    have h := ih (o + 1)
    have hb := (s.fbByte o).isLt
    rw [beValue_succ, show 8 * (n + 1) = 8 * n + 8 by omega, Nat.pow_add]
    nlinarith [Nat.two_pow_pos (8 * n)]

/-- Byte k of the value of a window is byte k of the window (00_scope.md R10). -/
theorem beValue_byte (s : State) (o n k : Nat) (h : k < n) :
    BitVec.ofNat 8 (s.beValue o n >>> (8 * (n - 1 - k))) = s.fbByte (o + k) := by
  induction n generalizing o k with
  | zero => omega
  | succ n ih =>
    rw [beValue_succ]
    cases k with
    | zero =>
      have hlt := beValue_lt s (o + 1) n
      simp only [Nat.sub_zero, Nat.add_zero, Nat.add_sub_cancel]
      rw [Nat.shiftRight_eq_div_pow, Nat.mul_comm, Nat.mul_add_div (Nat.two_pow_pos _),
        Nat.div_eq_of_lt hlt, Nat.add_zero, BitVec.ofNat_toNat, BitVec.setWidth_eq]
    | succ k =>
      rw [show n + 1 - 1 - (k + 1) = n - 1 - k by omega, show o + (k + 1) = o + 1 + k by omega,
        ← ih (o + 1) k (by omega)]
      apply BitVec.eq_of_toNat_eq
      simp only [BitVec.toNat_ofNat, Nat.shiftRight_eq_div_pow]
      rw [show 8 * n = 8 + (8 * (n - 1 - k) + 8 * k) by omega, Nat.pow_add, Nat.pow_add,
        show (s.fbByte o).toNat * (2 ^ 8 * (2 ^ (8 * (n - 1 - k)) * 2 ^ (8 * k))) =
          2 ^ (8 * (n - 1 - k)) * (2 ^ 8 * ((s.fbByte o).toNat * 2 ^ (8 * k))) by ring,
        Nat.mul_add_div (Nat.two_pow_pos _), Nat.mul_add_mod]

end Sys2Proof.Machine
end

