-- ==== Sys2Proof/Laws/State.lean ====
section
/-! SUPPORT. One lemma per field per named update of the state, each true by `rfl`: no proof unfolds a record
update. -/

namespace Sys2Proof.Machine

/-! ### raise -/

@[simp] theorem raise_fb (e : Status) (s : State) : (raise e s).fb = s.fb := rfl
@[simp] theorem raise_flen (e : Status) (s : State) : (raise e s).flen = s.flen := rfl
@[simp] theorem raise_opstat (e : Status) (s : State) : (raise e s).opstat = e := rfl
@[simp] theorem raise_fvalid (e : Status) (s : State) : (raise e s).fvalid = s.fvalid := rfl
@[simp] theorem raise_ovf (e : Status) (s : State) : (raise e s).ovf = s.ovf := rfl
@[simp] theorem raise_hdrvld (e : Status) (s : State) : (raise e s).hdrvld = s.hdrvld := rfl
@[simp] theorem raise_cls (e : Status) (s : State) : (raise e s).cls = s.cls := rfl
@[simp] theorem raise_subknown (e : Status) (s : State) : (raise e s).subknown = s.subknown := rfl
@[simp] theorem raise_typ (e : Status) (s : State) : (raise e s).typ = s.typ := rfl
@[simp] theorem raise_subtype (e : Status) (s : State) : (raise e s).subtype = s.subtype := rfl
@[simp] theorem raise_seq (e : Status) (s : State) : (raise e s).seq = s.seq := rfl
@[simp] theorem raise_acc (e : Status) (s : State) : (raise e s).acc = s.acc := rfl
@[simp] theorem raise_accVld (e : Status) (s : State) : (raise e s).accVld = s.accVld := rfl
@[simp] theorem raise_accDsel (e : Status) (s : State) : (raise e s).accDsel = s.accDsel := rfl
@[simp] theorem raise_rssi (e : Status) (s : State) : (raise e s).rssi = s.rssi := rfl
@[simp] theorem raise_batt (e : Status) (s : State) : (raise e s).batt = s.batt := rfl
@[simp] theorem raise_nibVld (e : Status) (s : State) : (raise e s).nibVld = s.nibVld := rfl
@[simp] theorem raise_tsign (e : Status) (s : State) : (raise e s).tsign = s.tsign := rfl
@[simp] theorem raise_tmag (e : Status) (s : State) : (raise e s).tmag = s.tmag := rfl
@[simp] theorem raise_temp (e : Status) (s : State) : (raise e s).temp = s.temp := rfl
@[simp] theorem raise_tVld (e : Status) (s : State) : (raise e s).tVld = s.tVld := rfl
@[simp] theorem raise_din (e : Status) (s : State) : (raise e s).din = s.din := rfl
@[simp] theorem raise_port (e : Status) (s : State) : (raise e s).port = s.port := rfl
@[simp] theorem raise_draw (e : Status) (s : State) : (raise e s).draw = s.draw := rfl

/-! ### succeed -/

@[simp] theorem succeed_fb (s : State) : (succeed s).fb = s.fb := rfl
@[simp] theorem succeed_flen (s : State) : (succeed s).flen = s.flen := rfl
@[simp] theorem succeed_opstat (s : State) : (succeed s).opstat = .ok := rfl
@[simp] theorem succeed_fvalid (s : State) : (succeed s).fvalid = s.fvalid := rfl
@[simp] theorem succeed_ovf (s : State) : (succeed s).ovf = s.ovf := rfl
@[simp] theorem succeed_hdrvld (s : State) : (succeed s).hdrvld = s.hdrvld := rfl
@[simp] theorem succeed_cls (s : State) : (succeed s).cls = s.cls := rfl
@[simp] theorem succeed_subknown (s : State) : (succeed s).subknown = s.subknown := rfl
@[simp] theorem succeed_typ (s : State) : (succeed s).typ = s.typ := rfl
@[simp] theorem succeed_subtype (s : State) : (succeed s).subtype = s.subtype := rfl
@[simp] theorem succeed_seq (s : State) : (succeed s).seq = s.seq := rfl
@[simp] theorem succeed_acc (s : State) : (succeed s).acc = s.acc := rfl
@[simp] theorem succeed_accVld (s : State) : (succeed s).accVld = s.accVld := rfl
@[simp] theorem succeed_accDsel (s : State) : (succeed s).accDsel = s.accDsel := rfl
@[simp] theorem succeed_rssi (s : State) : (succeed s).rssi = s.rssi := rfl
@[simp] theorem succeed_batt (s : State) : (succeed s).batt = s.batt := rfl
@[simp] theorem succeed_nibVld (s : State) : (succeed s).nibVld = s.nibVld := rfl
@[simp] theorem succeed_tsign (s : State) : (succeed s).tsign = s.tsign := rfl
@[simp] theorem succeed_tmag (s : State) : (succeed s).tmag = s.tmag := rfl
@[simp] theorem succeed_temp (s : State) : (succeed s).temp = s.temp := rfl
@[simp] theorem succeed_tVld (s : State) : (succeed s).tVld = s.tVld := rfl
@[simp] theorem succeed_din (s : State) : (succeed s).din = s.din := rfl
@[simp] theorem succeed_port (s : State) : (succeed s).port = s.port := rfl
@[simp] theorem succeed_draw (s : State) : (succeed s).draw = s.draw := rfl

/-! ### voidVerdict -/

@[simp] theorem voidVerdict_fb (s : State) : (voidVerdict s).fb = s.fb := rfl
@[simp] theorem voidVerdict_flen (s : State) : (voidVerdict s).flen = s.flen := rfl
@[simp] theorem voidVerdict_opstat (s : State) : (voidVerdict s).opstat = s.opstat := rfl
@[simp] theorem voidVerdict_fvalid (s : State) : (voidVerdict s).fvalid = false := rfl
@[simp] theorem voidVerdict_ovf (s : State) : (voidVerdict s).ovf = s.ovf := rfl
@[simp] theorem voidVerdict_hdrvld (s : State) : (voidVerdict s).hdrvld = s.hdrvld := rfl
@[simp] theorem voidVerdict_cls (s : State) : (voidVerdict s).cls = s.cls := rfl
@[simp] theorem voidVerdict_subknown (s : State) : (voidVerdict s).subknown = s.subknown := rfl
@[simp] theorem voidVerdict_typ (s : State) : (voidVerdict s).typ = s.typ := rfl
@[simp] theorem voidVerdict_subtype (s : State) : (voidVerdict s).subtype = s.subtype := rfl
@[simp] theorem voidVerdict_seq (s : State) : (voidVerdict s).seq = s.seq := rfl
@[simp] theorem voidVerdict_acc (s : State) : (voidVerdict s).acc = s.acc := rfl
@[simp] theorem voidVerdict_accVld (s : State) : (voidVerdict s).accVld = s.accVld := rfl
@[simp] theorem voidVerdict_accDsel (s : State) : (voidVerdict s).accDsel = s.accDsel := rfl
@[simp] theorem voidVerdict_rssi (s : State) : (voidVerdict s).rssi = s.rssi := rfl
@[simp] theorem voidVerdict_batt (s : State) : (voidVerdict s).batt = s.batt := rfl
@[simp] theorem voidVerdict_nibVld (s : State) : (voidVerdict s).nibVld = s.nibVld := rfl
@[simp] theorem voidVerdict_tsign (s : State) : (voidVerdict s).tsign = s.tsign := rfl
@[simp] theorem voidVerdict_tmag (s : State) : (voidVerdict s).tmag = s.tmag := rfl
@[simp] theorem voidVerdict_temp (s : State) : (voidVerdict s).temp = s.temp := rfl
@[simp] theorem voidVerdict_tVld (s : State) : (voidVerdict s).tVld = s.tVld := rfl
@[simp] theorem voidVerdict_din (s : State) : (voidVerdict s).din = s.din := rfl
@[simp] theorem voidVerdict_port (s : State) : (voidVerdict s).port = s.port := rfl
@[simp] theorem voidVerdict_draw (s : State) : (voidVerdict s).draw = s.draw := rfl

/-! ### setOverflow -/

@[simp] theorem setOverflow_fb (s : State) : (setOverflow s).fb = s.fb := rfl
@[simp] theorem setOverflow_flen (s : State) : (setOverflow s).flen = s.flen := rfl
@[simp] theorem setOverflow_opstat (s : State) : (setOverflow s).opstat = s.opstat := rfl
@[simp] theorem setOverflow_fvalid (s : State) : (setOverflow s).fvalid = s.fvalid := rfl
@[simp] theorem setOverflow_ovf (s : State) : (setOverflow s).ovf = true := rfl
@[simp] theorem setOverflow_hdrvld (s : State) : (setOverflow s).hdrvld = s.hdrvld := rfl
@[simp] theorem setOverflow_cls (s : State) : (setOverflow s).cls = s.cls := rfl
@[simp] theorem setOverflow_subknown (s : State) : (setOverflow s).subknown = s.subknown := rfl
@[simp] theorem setOverflow_typ (s : State) : (setOverflow s).typ = s.typ := rfl
@[simp] theorem setOverflow_subtype (s : State) : (setOverflow s).subtype = s.subtype := rfl
@[simp] theorem setOverflow_seq (s : State) : (setOverflow s).seq = s.seq := rfl
@[simp] theorem setOverflow_acc (s : State) : (setOverflow s).acc = s.acc := rfl
@[simp] theorem setOverflow_accVld (s : State) : (setOverflow s).accVld = s.accVld := rfl
@[simp] theorem setOverflow_accDsel (s : State) : (setOverflow s).accDsel = s.accDsel := rfl
@[simp] theorem setOverflow_rssi (s : State) : (setOverflow s).rssi = s.rssi := rfl
@[simp] theorem setOverflow_batt (s : State) : (setOverflow s).batt = s.batt := rfl
@[simp] theorem setOverflow_nibVld (s : State) : (setOverflow s).nibVld = s.nibVld := rfl
@[simp] theorem setOverflow_tsign (s : State) : (setOverflow s).tsign = s.tsign := rfl
@[simp] theorem setOverflow_tmag (s : State) : (setOverflow s).tmag = s.tmag := rfl
@[simp] theorem setOverflow_temp (s : State) : (setOverflow s).temp = s.temp := rfl
@[simp] theorem setOverflow_tVld (s : State) : (setOverflow s).tVld = s.tVld := rfl
@[simp] theorem setOverflow_din (s : State) : (setOverflow s).din = s.din := rfl
@[simp] theorem setOverflow_port (s : State) : (setOverflow s).port = s.port := rfl
@[simp] theorem setOverflow_draw (s : State) : (setOverflow s).draw = s.draw := rfl

/-! ### clearAcc -/

@[simp] theorem clearAcc_fb (s : State) : (clearAcc s).fb = s.fb := rfl
@[simp] theorem clearAcc_flen (s : State) : (clearAcc s).flen = s.flen := rfl
@[simp] theorem clearAcc_opstat (s : State) : (clearAcc s).opstat = s.opstat := rfl
@[simp] theorem clearAcc_fvalid (s : State) : (clearAcc s).fvalid = s.fvalid := rfl
@[simp] theorem clearAcc_ovf (s : State) : (clearAcc s).ovf = s.ovf := rfl
@[simp] theorem clearAcc_hdrvld (s : State) : (clearAcc s).hdrvld = s.hdrvld := rfl
@[simp] theorem clearAcc_cls (s : State) : (clearAcc s).cls = s.cls := rfl
@[simp] theorem clearAcc_subknown (s : State) : (clearAcc s).subknown = s.subknown := rfl
@[simp] theorem clearAcc_typ (s : State) : (clearAcc s).typ = s.typ := rfl
@[simp] theorem clearAcc_subtype (s : State) : (clearAcc s).subtype = s.subtype := rfl
@[simp] theorem clearAcc_seq (s : State) : (clearAcc s).seq = s.seq := rfl
@[simp] theorem clearAcc_acc (s : State) : (clearAcc s).acc = 0 := rfl
@[simp] theorem clearAcc_accVld (s : State) : (clearAcc s).accVld = false := rfl
@[simp] theorem clearAcc_accDsel (s : State) : (clearAcc s).accDsel = 0 := rfl
@[simp] theorem clearAcc_rssi (s : State) : (clearAcc s).rssi = s.rssi := rfl
@[simp] theorem clearAcc_batt (s : State) : (clearAcc s).batt = s.batt := rfl
@[simp] theorem clearAcc_nibVld (s : State) : (clearAcc s).nibVld = s.nibVld := rfl
@[simp] theorem clearAcc_tsign (s : State) : (clearAcc s).tsign = s.tsign := rfl
@[simp] theorem clearAcc_tmag (s : State) : (clearAcc s).tmag = s.tmag := rfl
@[simp] theorem clearAcc_temp (s : State) : (clearAcc s).temp = s.temp := rfl
@[simp] theorem clearAcc_tVld (s : State) : (clearAcc s).tVld = s.tVld := rfl
@[simp] theorem clearAcc_din (s : State) : (clearAcc s).din = s.din := rfl
@[simp] theorem clearAcc_port (s : State) : (clearAcc s).port = s.port := rfl
@[simp] theorem clearAcc_draw (s : State) : (clearAcc s).draw = s.draw := rfl

/-! ### clearNib -/

@[simp] theorem clearNib_fb (s : State) : (clearNib s).fb = s.fb := rfl
@[simp] theorem clearNib_flen (s : State) : (clearNib s).flen = s.flen := rfl
@[simp] theorem clearNib_opstat (s : State) : (clearNib s).opstat = s.opstat := rfl
@[simp] theorem clearNib_fvalid (s : State) : (clearNib s).fvalid = s.fvalid := rfl
@[simp] theorem clearNib_ovf (s : State) : (clearNib s).ovf = s.ovf := rfl
@[simp] theorem clearNib_hdrvld (s : State) : (clearNib s).hdrvld = s.hdrvld := rfl
@[simp] theorem clearNib_cls (s : State) : (clearNib s).cls = s.cls := rfl
@[simp] theorem clearNib_subknown (s : State) : (clearNib s).subknown = s.subknown := rfl
@[simp] theorem clearNib_typ (s : State) : (clearNib s).typ = s.typ := rfl
@[simp] theorem clearNib_subtype (s : State) : (clearNib s).subtype = s.subtype := rfl
@[simp] theorem clearNib_seq (s : State) : (clearNib s).seq = s.seq := rfl
@[simp] theorem clearNib_acc (s : State) : (clearNib s).acc = s.acc := rfl
@[simp] theorem clearNib_accVld (s : State) : (clearNib s).accVld = s.accVld := rfl
@[simp] theorem clearNib_accDsel (s : State) : (clearNib s).accDsel = s.accDsel := rfl
@[simp] theorem clearNib_rssi (s : State) : (clearNib s).rssi = 0 := rfl
@[simp] theorem clearNib_batt (s : State) : (clearNib s).batt = 0 := rfl
@[simp] theorem clearNib_nibVld (s : State) : (clearNib s).nibVld = false := rfl
@[simp] theorem clearNib_tsign (s : State) : (clearNib s).tsign = s.tsign := rfl
@[simp] theorem clearNib_tmag (s : State) : (clearNib s).tmag = s.tmag := rfl
@[simp] theorem clearNib_temp (s : State) : (clearNib s).temp = s.temp := rfl
@[simp] theorem clearNib_tVld (s : State) : (clearNib s).tVld = s.tVld := rfl
@[simp] theorem clearNib_din (s : State) : (clearNib s).din = s.din := rfl
@[simp] theorem clearNib_port (s : State) : (clearNib s).port = s.port := rfl
@[simp] theorem clearNib_draw (s : State) : (clearNib s).draw = s.draw := rfl

/-! ### clearTemp -/

@[simp] theorem clearTemp_fb (s : State) : (clearTemp s).fb = s.fb := rfl
@[simp] theorem clearTemp_flen (s : State) : (clearTemp s).flen = s.flen := rfl
@[simp] theorem clearTemp_opstat (s : State) : (clearTemp s).opstat = s.opstat := rfl
@[simp] theorem clearTemp_fvalid (s : State) : (clearTemp s).fvalid = s.fvalid := rfl
@[simp] theorem clearTemp_ovf (s : State) : (clearTemp s).ovf = s.ovf := rfl
@[simp] theorem clearTemp_hdrvld (s : State) : (clearTemp s).hdrvld = s.hdrvld := rfl
@[simp] theorem clearTemp_cls (s : State) : (clearTemp s).cls = s.cls := rfl
@[simp] theorem clearTemp_subknown (s : State) : (clearTemp s).subknown = s.subknown := rfl
@[simp] theorem clearTemp_typ (s : State) : (clearTemp s).typ = s.typ := rfl
@[simp] theorem clearTemp_subtype (s : State) : (clearTemp s).subtype = s.subtype := rfl
@[simp] theorem clearTemp_seq (s : State) : (clearTemp s).seq = s.seq := rfl
@[simp] theorem clearTemp_acc (s : State) : (clearTemp s).acc = s.acc := rfl
@[simp] theorem clearTemp_accVld (s : State) : (clearTemp s).accVld = s.accVld := rfl
@[simp] theorem clearTemp_accDsel (s : State) : (clearTemp s).accDsel = s.accDsel := rfl
@[simp] theorem clearTemp_rssi (s : State) : (clearTemp s).rssi = s.rssi := rfl
@[simp] theorem clearTemp_batt (s : State) : (clearTemp s).batt = s.batt := rfl
@[simp] theorem clearTemp_nibVld (s : State) : (clearTemp s).nibVld = s.nibVld := rfl
@[simp] theorem clearTemp_tsign (s : State) : (clearTemp s).tsign = false := rfl
@[simp] theorem clearTemp_tmag (s : State) : (clearTemp s).tmag = 0 := rfl
@[simp] theorem clearTemp_temp (s : State) : (clearTemp s).temp = 0 := rfl
@[simp] theorem clearTemp_tVld (s : State) : (clearTemp s).tVld = false := rfl
@[simp] theorem clearTemp_din (s : State) : (clearTemp s).din = s.din := rfl
@[simp] theorem clearTemp_port (s : State) : (clearTemp s).port = s.port := rfl
@[simp] theorem clearTemp_draw (s : State) : (clearTemp s).draw = s.draw := rfl

/-! ### clearHeader -/

@[simp] theorem clearHeader_fb (s : State) : (clearHeader s).fb = s.fb := rfl
@[simp] theorem clearHeader_flen (s : State) : (clearHeader s).flen = s.flen := rfl
@[simp] theorem clearHeader_opstat (s : State) : (clearHeader s).opstat = s.opstat := rfl
@[simp] theorem clearHeader_fvalid (s : State) : (clearHeader s).fvalid = s.fvalid := rfl
@[simp] theorem clearHeader_ovf (s : State) : (clearHeader s).ovf = s.ovf := rfl
@[simp] theorem clearHeader_hdrvld (s : State) : (clearHeader s).hdrvld = false := rfl
@[simp] theorem clearHeader_cls (s : State) : (clearHeader s).cls = .none := rfl
@[simp] theorem clearHeader_subknown (s : State) : (clearHeader s).subknown = false := rfl
@[simp] theorem clearHeader_typ (s : State) : (clearHeader s).typ = 0 := rfl
@[simp] theorem clearHeader_subtype (s : State) : (clearHeader s).subtype = 0 := rfl
@[simp] theorem clearHeader_seq (s : State) : (clearHeader s).seq = 0 := rfl
@[simp] theorem clearHeader_acc (s : State) : (clearHeader s).acc = s.acc := rfl
@[simp] theorem clearHeader_accVld (s : State) : (clearHeader s).accVld = s.accVld := rfl
@[simp] theorem clearHeader_accDsel (s : State) : (clearHeader s).accDsel = s.accDsel := rfl
@[simp] theorem clearHeader_rssi (s : State) : (clearHeader s).rssi = s.rssi := rfl
@[simp] theorem clearHeader_batt (s : State) : (clearHeader s).batt = s.batt := rfl
@[simp] theorem clearHeader_nibVld (s : State) : (clearHeader s).nibVld = s.nibVld := rfl
@[simp] theorem clearHeader_tsign (s : State) : (clearHeader s).tsign = s.tsign := rfl
@[simp] theorem clearHeader_tmag (s : State) : (clearHeader s).tmag = s.tmag := rfl
@[simp] theorem clearHeader_temp (s : State) : (clearHeader s).temp = s.temp := rfl
@[simp] theorem clearHeader_tVld (s : State) : (clearHeader s).tVld = s.tVld := rfl
@[simp] theorem clearHeader_din (s : State) : (clearHeader s).din = s.din := rfl
@[simp] theorem clearHeader_port (s : State) : (clearHeader s).port = s.port := rfl
@[simp] theorem clearHeader_draw (s : State) : (clearHeader s).draw = s.draw := rfl

/-! ### latchAcc -/

@[simp] theorem latchAcc_fb (v : BitVec 48) (d : BitVec 4) (s : State) : (latchAcc v d s).fb = s.fb := rfl
@[simp] theorem latchAcc_flen (v : BitVec 48) (d : BitVec 4) (s : State) : (latchAcc v d s).flen = s.flen := rfl
@[simp] theorem latchAcc_opstat (v : BitVec 48) (d : BitVec 4) (s : State) : (latchAcc v d s).opstat = s.opstat := rfl
@[simp] theorem latchAcc_fvalid (v : BitVec 48) (d : BitVec 4) (s : State) : (latchAcc v d s).fvalid = s.fvalid := rfl
@[simp] theorem latchAcc_ovf (v : BitVec 48) (d : BitVec 4) (s : State) : (latchAcc v d s).ovf = s.ovf := rfl
@[simp] theorem latchAcc_hdrvld (v : BitVec 48) (d : BitVec 4) (s : State) : (latchAcc v d s).hdrvld = s.hdrvld := rfl
@[simp] theorem latchAcc_cls (v : BitVec 48) (d : BitVec 4) (s : State) : (latchAcc v d s).cls = s.cls := rfl
@[simp] theorem latchAcc_subknown (v : BitVec 48) (d : BitVec 4) (s : State) : (latchAcc v d s).subknown = s.subknown := rfl
@[simp] theorem latchAcc_typ (v : BitVec 48) (d : BitVec 4) (s : State) : (latchAcc v d s).typ = s.typ := rfl
@[simp] theorem latchAcc_subtype (v : BitVec 48) (d : BitVec 4) (s : State) : (latchAcc v d s).subtype = s.subtype := rfl
@[simp] theorem latchAcc_seq (v : BitVec 48) (d : BitVec 4) (s : State) : (latchAcc v d s).seq = s.seq := rfl
@[simp] theorem latchAcc_acc (v : BitVec 48) (d : BitVec 4) (s : State) : (latchAcc v d s).acc = v := rfl
@[simp] theorem latchAcc_accVld (v : BitVec 48) (d : BitVec 4) (s : State) : (latchAcc v d s).accVld = true := rfl
@[simp] theorem latchAcc_accDsel (v : BitVec 48) (d : BitVec 4) (s : State) : (latchAcc v d s).accDsel = d := rfl
@[simp] theorem latchAcc_rssi (v : BitVec 48) (d : BitVec 4) (s : State) : (latchAcc v d s).rssi = s.rssi := rfl
@[simp] theorem latchAcc_batt (v : BitVec 48) (d : BitVec 4) (s : State) : (latchAcc v d s).batt = s.batt := rfl
@[simp] theorem latchAcc_nibVld (v : BitVec 48) (d : BitVec 4) (s : State) : (latchAcc v d s).nibVld = s.nibVld := rfl
@[simp] theorem latchAcc_tsign (v : BitVec 48) (d : BitVec 4) (s : State) : (latchAcc v d s).tsign = s.tsign := rfl
@[simp] theorem latchAcc_tmag (v : BitVec 48) (d : BitVec 4) (s : State) : (latchAcc v d s).tmag = s.tmag := rfl
@[simp] theorem latchAcc_temp (v : BitVec 48) (d : BitVec 4) (s : State) : (latchAcc v d s).temp = s.temp := rfl
@[simp] theorem latchAcc_tVld (v : BitVec 48) (d : BitVec 4) (s : State) : (latchAcc v d s).tVld = s.tVld := rfl
@[simp] theorem latchAcc_din (v : BitVec 48) (d : BitVec 4) (s : State) : (latchAcc v d s).din = s.din := rfl
@[simp] theorem latchAcc_port (v : BitVec 48) (d : BitVec 4) (s : State) : (latchAcc v d s).port = s.port := rfl
@[simp] theorem latchAcc_draw (v : BitVec 48) (d : BitVec 4) (s : State) : (latchAcc v d s).draw = s.draw := rfl

/-! ### latchNib -/

@[simp] theorem latchNib_fb (b : Byte) (s : State) : (latchNib b s).fb = s.fb := rfl
@[simp] theorem latchNib_flen (b : Byte) (s : State) : (latchNib b s).flen = s.flen := rfl
@[simp] theorem latchNib_opstat (b : Byte) (s : State) : (latchNib b s).opstat = s.opstat := rfl
@[simp] theorem latchNib_fvalid (b : Byte) (s : State) : (latchNib b s).fvalid = s.fvalid := rfl
@[simp] theorem latchNib_ovf (b : Byte) (s : State) : (latchNib b s).ovf = s.ovf := rfl
@[simp] theorem latchNib_hdrvld (b : Byte) (s : State) : (latchNib b s).hdrvld = s.hdrvld := rfl
@[simp] theorem latchNib_cls (b : Byte) (s : State) : (latchNib b s).cls = s.cls := rfl
@[simp] theorem latchNib_subknown (b : Byte) (s : State) : (latchNib b s).subknown = s.subknown := rfl
@[simp] theorem latchNib_typ (b : Byte) (s : State) : (latchNib b s).typ = s.typ := rfl
@[simp] theorem latchNib_subtype (b : Byte) (s : State) : (latchNib b s).subtype = s.subtype := rfl
@[simp] theorem latchNib_seq (b : Byte) (s : State) : (latchNib b s).seq = s.seq := rfl
@[simp] theorem latchNib_acc (b : Byte) (s : State) : (latchNib b s).acc = s.acc := rfl
@[simp] theorem latchNib_accVld (b : Byte) (s : State) : (latchNib b s).accVld = s.accVld := rfl
@[simp] theorem latchNib_accDsel (b : Byte) (s : State) : (latchNib b s).accDsel = s.accDsel := rfl
@[simp] theorem latchNib_rssi (b : Byte) (s : State) : (latchNib b s).rssi = b.extractLsb' 4 4 := rfl
@[simp] theorem latchNib_batt (b : Byte) (s : State) : (latchNib b s).batt = b.extractLsb' 0 4 := rfl
@[simp] theorem latchNib_nibVld (b : Byte) (s : State) : (latchNib b s).nibVld = true := rfl
@[simp] theorem latchNib_tsign (b : Byte) (s : State) : (latchNib b s).tsign = s.tsign := rfl
@[simp] theorem latchNib_tmag (b : Byte) (s : State) : (latchNib b s).tmag = s.tmag := rfl
@[simp] theorem latchNib_temp (b : Byte) (s : State) : (latchNib b s).temp = s.temp := rfl
@[simp] theorem latchNib_tVld (b : Byte) (s : State) : (latchNib b s).tVld = s.tVld := rfl
@[simp] theorem latchNib_din (b : Byte) (s : State) : (latchNib b s).din = s.din := rfl
@[simp] theorem latchNib_port (b : Byte) (s : State) : (latchNib b s).port = s.port := rfl
@[simp] theorem latchNib_draw (b : Byte) (s : State) : (latchNib b s).draw = s.draw := rfl

/-! ### latchTemp -/

@[simp] theorem latchTemp_fb (g : Bool) (m : BitVec 15) (v : BitVec 16) (s : State) : (latchTemp g m v s).fb = s.fb := rfl
@[simp] theorem latchTemp_flen (g : Bool) (m : BitVec 15) (v : BitVec 16) (s : State) : (latchTemp g m v s).flen = s.flen := rfl
@[simp] theorem latchTemp_opstat (g : Bool) (m : BitVec 15) (v : BitVec 16) (s : State) : (latchTemp g m v s).opstat = s.opstat := rfl
@[simp] theorem latchTemp_fvalid (g : Bool) (m : BitVec 15) (v : BitVec 16) (s : State) : (latchTemp g m v s).fvalid = s.fvalid := rfl
@[simp] theorem latchTemp_ovf (g : Bool) (m : BitVec 15) (v : BitVec 16) (s : State) : (latchTemp g m v s).ovf = s.ovf := rfl
@[simp] theorem latchTemp_hdrvld (g : Bool) (m : BitVec 15) (v : BitVec 16) (s : State) : (latchTemp g m v s).hdrvld = s.hdrvld := rfl
@[simp] theorem latchTemp_cls (g : Bool) (m : BitVec 15) (v : BitVec 16) (s : State) : (latchTemp g m v s).cls = s.cls := rfl
@[simp] theorem latchTemp_subknown (g : Bool) (m : BitVec 15) (v : BitVec 16) (s : State) : (latchTemp g m v s).subknown = s.subknown := rfl
@[simp] theorem latchTemp_typ (g : Bool) (m : BitVec 15) (v : BitVec 16) (s : State) : (latchTemp g m v s).typ = s.typ := rfl
@[simp] theorem latchTemp_subtype (g : Bool) (m : BitVec 15) (v : BitVec 16) (s : State) : (latchTemp g m v s).subtype = s.subtype := rfl
@[simp] theorem latchTemp_seq (g : Bool) (m : BitVec 15) (v : BitVec 16) (s : State) : (latchTemp g m v s).seq = s.seq := rfl
@[simp] theorem latchTemp_acc (g : Bool) (m : BitVec 15) (v : BitVec 16) (s : State) : (latchTemp g m v s).acc = s.acc := rfl
@[simp] theorem latchTemp_accVld (g : Bool) (m : BitVec 15) (v : BitVec 16) (s : State) : (latchTemp g m v s).accVld = s.accVld := rfl
@[simp] theorem latchTemp_accDsel (g : Bool) (m : BitVec 15) (v : BitVec 16) (s : State) : (latchTemp g m v s).accDsel = s.accDsel := rfl
@[simp] theorem latchTemp_rssi (g : Bool) (m : BitVec 15) (v : BitVec 16) (s : State) : (latchTemp g m v s).rssi = s.rssi := rfl
@[simp] theorem latchTemp_batt (g : Bool) (m : BitVec 15) (v : BitVec 16) (s : State) : (latchTemp g m v s).batt = s.batt := rfl
@[simp] theorem latchTemp_nibVld (g : Bool) (m : BitVec 15) (v : BitVec 16) (s : State) : (latchTemp g m v s).nibVld = s.nibVld := rfl
@[simp] theorem latchTemp_tsign (g : Bool) (m : BitVec 15) (v : BitVec 16) (s : State) : (latchTemp g m v s).tsign = g := rfl
@[simp] theorem latchTemp_tmag (g : Bool) (m : BitVec 15) (v : BitVec 16) (s : State) : (latchTemp g m v s).tmag = m := rfl
@[simp] theorem latchTemp_temp (g : Bool) (m : BitVec 15) (v : BitVec 16) (s : State) : (latchTemp g m v s).temp = v := rfl
@[simp] theorem latchTemp_tVld (g : Bool) (m : BitVec 15) (v : BitVec 16) (s : State) : (latchTemp g m v s).tVld = true := rfl
@[simp] theorem latchTemp_din (g : Bool) (m : BitVec 15) (v : BitVec 16) (s : State) : (latchTemp g m v s).din = s.din := rfl
@[simp] theorem latchTemp_port (g : Bool) (m : BitVec 15) (v : BitVec 16) (s : State) : (latchTemp g m v s).port = s.port := rfl
@[simp] theorem latchTemp_draw (g : Bool) (m : BitVec 15) (v : BitVec 16) (s : State) : (latchTemp g m v s).draw = s.draw := rfl

/-! ### latchHeader -/

@[simp] theorem latchHeader_fb (a b c : Byte) (k : FrameClass) (n : Bool) (s : State) : (latchHeader a b c k n s).fb = s.fb := rfl
@[simp] theorem latchHeader_flen (a b c : Byte) (k : FrameClass) (n : Bool) (s : State) : (latchHeader a b c k n s).flen = s.flen := rfl
@[simp] theorem latchHeader_opstat (a b c : Byte) (k : FrameClass) (n : Bool) (s : State) : (latchHeader a b c k n s).opstat = s.opstat := rfl
@[simp] theorem latchHeader_fvalid (a b c : Byte) (k : FrameClass) (n : Bool) (s : State) : (latchHeader a b c k n s).fvalid = true := rfl
@[simp] theorem latchHeader_ovf (a b c : Byte) (k : FrameClass) (n : Bool) (s : State) : (latchHeader a b c k n s).ovf = s.ovf := rfl
@[simp] theorem latchHeader_hdrvld (a b c : Byte) (k : FrameClass) (n : Bool) (s : State) : (latchHeader a b c k n s).hdrvld = true := rfl
@[simp] theorem latchHeader_cls (a b c : Byte) (k : FrameClass) (n : Bool) (s : State) : (latchHeader a b c k n s).cls = k := rfl
@[simp] theorem latchHeader_subknown (a b c : Byte) (k : FrameClass) (n : Bool) (s : State) : (latchHeader a b c k n s).subknown = n := rfl
@[simp] theorem latchHeader_typ (a b c : Byte) (k : FrameClass) (n : Bool) (s : State) : (latchHeader a b c k n s).typ = a := rfl
@[simp] theorem latchHeader_subtype (a b c : Byte) (k : FrameClass) (n : Bool) (s : State) : (latchHeader a b c k n s).subtype = b := rfl
@[simp] theorem latchHeader_seq (a b c : Byte) (k : FrameClass) (n : Bool) (s : State) : (latchHeader a b c k n s).seq = c := rfl
@[simp] theorem latchHeader_acc (a b c : Byte) (k : FrameClass) (n : Bool) (s : State) : (latchHeader a b c k n s).acc = s.acc := rfl
@[simp] theorem latchHeader_accVld (a b c : Byte) (k : FrameClass) (n : Bool) (s : State) : (latchHeader a b c k n s).accVld = s.accVld := rfl
@[simp] theorem latchHeader_accDsel (a b c : Byte) (k : FrameClass) (n : Bool) (s : State) : (latchHeader a b c k n s).accDsel = s.accDsel := rfl
@[simp] theorem latchHeader_rssi (a b c : Byte) (k : FrameClass) (n : Bool) (s : State) : (latchHeader a b c k n s).rssi = s.rssi := rfl
@[simp] theorem latchHeader_batt (a b c : Byte) (k : FrameClass) (n : Bool) (s : State) : (latchHeader a b c k n s).batt = s.batt := rfl
@[simp] theorem latchHeader_nibVld (a b c : Byte) (k : FrameClass) (n : Bool) (s : State) : (latchHeader a b c k n s).nibVld = s.nibVld := rfl
@[simp] theorem latchHeader_tsign (a b c : Byte) (k : FrameClass) (n : Bool) (s : State) : (latchHeader a b c k n s).tsign = s.tsign := rfl
@[simp] theorem latchHeader_tmag (a b c : Byte) (k : FrameClass) (n : Bool) (s : State) : (latchHeader a b c k n s).tmag = s.tmag := rfl
@[simp] theorem latchHeader_temp (a b c : Byte) (k : FrameClass) (n : Bool) (s : State) : (latchHeader a b c k n s).temp = s.temp := rfl
@[simp] theorem latchHeader_tVld (a b c : Byte) (k : FrameClass) (n : Bool) (s : State) : (latchHeader a b c k n s).tVld = s.tVld := rfl
@[simp] theorem latchHeader_din (a b c : Byte) (k : FrameClass) (n : Bool) (s : State) : (latchHeader a b c k n s).din = s.din := rfl
@[simp] theorem latchHeader_port (a b c : Byte) (k : FrameClass) (n : Bool) (s : State) : (latchHeader a b c k n s).port = s.port := rfl
@[simp] theorem latchHeader_draw (a b c : Byte) (k : FrameClass) (n : Bool) (s : State) : (latchHeader a b c k n s).draw = s.draw := rfl

/-! ### setByte -/

@[simp] theorem setByte_fb (s : State) (a : Nat) (b : Byte) : (s.setByte a b).fb = Memory.write s.fb a b := rfl
@[simp] theorem setByte_flen (s : State) (a : Nat) (b : Byte) : (s.setByte a b).flen = s.flen := rfl
@[simp] theorem setByte_opstat (s : State) (a : Nat) (b : Byte) : (s.setByte a b).opstat = s.opstat := rfl
@[simp] theorem setByte_fvalid (s : State) (a : Nat) (b : Byte) : (s.setByte a b).fvalid = s.fvalid := rfl
@[simp] theorem setByte_ovf (s : State) (a : Nat) (b : Byte) : (s.setByte a b).ovf = s.ovf := rfl
@[simp] theorem setByte_hdrvld (s : State) (a : Nat) (b : Byte) : (s.setByte a b).hdrvld = s.hdrvld := rfl
@[simp] theorem setByte_cls (s : State) (a : Nat) (b : Byte) : (s.setByte a b).cls = s.cls := rfl
@[simp] theorem setByte_subknown (s : State) (a : Nat) (b : Byte) : (s.setByte a b).subknown = s.subknown := rfl
@[simp] theorem setByte_typ (s : State) (a : Nat) (b : Byte) : (s.setByte a b).typ = s.typ := rfl
@[simp] theorem setByte_subtype (s : State) (a : Nat) (b : Byte) : (s.setByte a b).subtype = s.subtype := rfl
@[simp] theorem setByte_seq (s : State) (a : Nat) (b : Byte) : (s.setByte a b).seq = s.seq := rfl
@[simp] theorem setByte_acc (s : State) (a : Nat) (b : Byte) : (s.setByte a b).acc = s.acc := rfl
@[simp] theorem setByte_accVld (s : State) (a : Nat) (b : Byte) : (s.setByte a b).accVld = s.accVld := rfl
@[simp] theorem setByte_accDsel (s : State) (a : Nat) (b : Byte) : (s.setByte a b).accDsel = s.accDsel := rfl
@[simp] theorem setByte_rssi (s : State) (a : Nat) (b : Byte) : (s.setByte a b).rssi = s.rssi := rfl
@[simp] theorem setByte_batt (s : State) (a : Nat) (b : Byte) : (s.setByte a b).batt = s.batt := rfl
@[simp] theorem setByte_nibVld (s : State) (a : Nat) (b : Byte) : (s.setByte a b).nibVld = s.nibVld := rfl
@[simp] theorem setByte_tsign (s : State) (a : Nat) (b : Byte) : (s.setByte a b).tsign = s.tsign := rfl
@[simp] theorem setByte_tmag (s : State) (a : Nat) (b : Byte) : (s.setByte a b).tmag = s.tmag := rfl
@[simp] theorem setByte_temp (s : State) (a : Nat) (b : Byte) : (s.setByte a b).temp = s.temp := rfl
@[simp] theorem setByte_tVld (s : State) (a : Nat) (b : Byte) : (s.setByte a b).tVld = s.tVld := rfl
@[simp] theorem setByte_din (s : State) (a : Nat) (b : Byte) : (s.setByte a b).din = s.din := rfl
@[simp] theorem setByte_port (s : State) (a : Nat) (b : Byte) : (s.setByte a b).port = s.port := rfl
@[simp] theorem setByte_draw (s : State) (a : Nat) (b : Byte) : (s.setByte a b).draw = s.draw := rfl

/-! ### memWrite -/

@[simp] theorem memWrite_fb (s : State) (o n v : Nat) : (memWrite s o n v).fb = Memory.writeBytes s.fb o (bytesBE v n) := rfl
@[simp] theorem memWrite_flen (s : State) (o n v : Nat) : (memWrite s o n v).flen = s.flen := rfl
@[simp] theorem memWrite_opstat (s : State) (o n v : Nat) : (memWrite s o n v).opstat = s.opstat := rfl
@[simp] theorem memWrite_fvalid (s : State) (o n v : Nat) : (memWrite s o n v).fvalid = s.fvalid := rfl
@[simp] theorem memWrite_ovf (s : State) (o n v : Nat) : (memWrite s o n v).ovf = s.ovf := rfl
@[simp] theorem memWrite_hdrvld (s : State) (o n v : Nat) : (memWrite s o n v).hdrvld = s.hdrvld := rfl
@[simp] theorem memWrite_cls (s : State) (o n v : Nat) : (memWrite s o n v).cls = s.cls := rfl
@[simp] theorem memWrite_subknown (s : State) (o n v : Nat) : (memWrite s o n v).subknown = s.subknown := rfl
@[simp] theorem memWrite_typ (s : State) (o n v : Nat) : (memWrite s o n v).typ = s.typ := rfl
@[simp] theorem memWrite_subtype (s : State) (o n v : Nat) : (memWrite s o n v).subtype = s.subtype := rfl
@[simp] theorem memWrite_seq (s : State) (o n v : Nat) : (memWrite s o n v).seq = s.seq := rfl
@[simp] theorem memWrite_acc (s : State) (o n v : Nat) : (memWrite s o n v).acc = s.acc := rfl
@[simp] theorem memWrite_accVld (s : State) (o n v : Nat) : (memWrite s o n v).accVld = s.accVld := rfl
@[simp] theorem memWrite_accDsel (s : State) (o n v : Nat) : (memWrite s o n v).accDsel = s.accDsel := rfl
@[simp] theorem memWrite_rssi (s : State) (o n v : Nat) : (memWrite s o n v).rssi = s.rssi := rfl
@[simp] theorem memWrite_batt (s : State) (o n v : Nat) : (memWrite s o n v).batt = s.batt := rfl
@[simp] theorem memWrite_nibVld (s : State) (o n v : Nat) : (memWrite s o n v).nibVld = s.nibVld := rfl
@[simp] theorem memWrite_tsign (s : State) (o n v : Nat) : (memWrite s o n v).tsign = s.tsign := rfl
@[simp] theorem memWrite_tmag (s : State) (o n v : Nat) : (memWrite s o n v).tmag = s.tmag := rfl
@[simp] theorem memWrite_temp (s : State) (o n v : Nat) : (memWrite s o n v).temp = s.temp := rfl
@[simp] theorem memWrite_tVld (s : State) (o n v : Nat) : (memWrite s o n v).tVld = s.tVld := rfl
@[simp] theorem memWrite_din (s : State) (o n v : Nat) : (memWrite s o n v).din = s.din := rfl
@[simp] theorem memWrite_port (s : State) (o n v : Nat) : (memWrite s o n v).port = s.port := rfl
@[simp] theorem memWrite_draw (s : State) (o n v : Nat) : (memWrite s o n v).draw = s.draw := rfl

/-! ### loadDin -/

@[simp] theorem loadDin_fb (v : BitVec 48) (s : State) : (loadDin v s).fb = s.fb := rfl
@[simp] theorem loadDin_flen (v : BitVec 48) (s : State) : (loadDin v s).flen = s.flen := rfl
@[simp] theorem loadDin_opstat (v : BitVec 48) (s : State) : (loadDin v s).opstat = s.opstat := rfl
@[simp] theorem loadDin_fvalid (v : BitVec 48) (s : State) : (loadDin v s).fvalid = s.fvalid := rfl
@[simp] theorem loadDin_ovf (v : BitVec 48) (s : State) : (loadDin v s).ovf = s.ovf := rfl
@[simp] theorem loadDin_hdrvld (v : BitVec 48) (s : State) : (loadDin v s).hdrvld = s.hdrvld := rfl
@[simp] theorem loadDin_cls (v : BitVec 48) (s : State) : (loadDin v s).cls = s.cls := rfl
@[simp] theorem loadDin_subknown (v : BitVec 48) (s : State) : (loadDin v s).subknown = s.subknown := rfl
@[simp] theorem loadDin_typ (v : BitVec 48) (s : State) : (loadDin v s).typ = s.typ := rfl
@[simp] theorem loadDin_subtype (v : BitVec 48) (s : State) : (loadDin v s).subtype = s.subtype := rfl
@[simp] theorem loadDin_seq (v : BitVec 48) (s : State) : (loadDin v s).seq = s.seq := rfl
@[simp] theorem loadDin_acc (v : BitVec 48) (s : State) : (loadDin v s).acc = s.acc := rfl
@[simp] theorem loadDin_accVld (v : BitVec 48) (s : State) : (loadDin v s).accVld = s.accVld := rfl
@[simp] theorem loadDin_accDsel (v : BitVec 48) (s : State) : (loadDin v s).accDsel = s.accDsel := rfl
@[simp] theorem loadDin_rssi (v : BitVec 48) (s : State) : (loadDin v s).rssi = s.rssi := rfl
@[simp] theorem loadDin_batt (v : BitVec 48) (s : State) : (loadDin v s).batt = s.batt := rfl
@[simp] theorem loadDin_nibVld (v : BitVec 48) (s : State) : (loadDin v s).nibVld = s.nibVld := rfl
@[simp] theorem loadDin_tsign (v : BitVec 48) (s : State) : (loadDin v s).tsign = s.tsign := rfl
@[simp] theorem loadDin_tmag (v : BitVec 48) (s : State) : (loadDin v s).tmag = s.tmag := rfl
@[simp] theorem loadDin_temp (v : BitVec 48) (s : State) : (loadDin v s).temp = s.temp := rfl
@[simp] theorem loadDin_tVld (v : BitVec 48) (s : State) : (loadDin v s).tVld = s.tVld := rfl
@[simp] theorem loadDin_din (v : BitVec 48) (s : State) : (loadDin v s).din = v := rfl
@[simp] theorem loadDin_port (v : BitVec 48) (s : State) : (loadDin v s).port = s.port := rfl
@[simp] theorem loadDin_draw (v : BitVec 48) (s : State) : (loadDin v s).draw = s.draw := rfl

/-! ### appendByte -/

@[simp] theorem appendByte_fb (b : Byte) (s : State) : (appendByte b s).fb = Memory.write s.fb s.flen.val b := rfl
@[simp] theorem appendByte_flen (b : Byte) (s : State) : (appendByte b s).flen = nextLength s.flen := rfl
@[simp] theorem appendByte_opstat (b : Byte) (s : State) : (appendByte b s).opstat = s.opstat := rfl
@[simp] theorem appendByte_fvalid (b : Byte) (s : State) : (appendByte b s).fvalid = s.fvalid := rfl
@[simp] theorem appendByte_ovf (b : Byte) (s : State) : (appendByte b s).ovf = s.ovf := rfl
@[simp] theorem appendByte_hdrvld (b : Byte) (s : State) : (appendByte b s).hdrvld = s.hdrvld := rfl
@[simp] theorem appendByte_cls (b : Byte) (s : State) : (appendByte b s).cls = s.cls := rfl
@[simp] theorem appendByte_subknown (b : Byte) (s : State) : (appendByte b s).subknown = s.subknown := rfl
@[simp] theorem appendByte_typ (b : Byte) (s : State) : (appendByte b s).typ = s.typ := rfl
@[simp] theorem appendByte_subtype (b : Byte) (s : State) : (appendByte b s).subtype = s.subtype := rfl
@[simp] theorem appendByte_seq (b : Byte) (s : State) : (appendByte b s).seq = s.seq := rfl
@[simp] theorem appendByte_acc (b : Byte) (s : State) : (appendByte b s).acc = s.acc := rfl
@[simp] theorem appendByte_accVld (b : Byte) (s : State) : (appendByte b s).accVld = s.accVld := rfl
@[simp] theorem appendByte_accDsel (b : Byte) (s : State) : (appendByte b s).accDsel = s.accDsel := rfl
@[simp] theorem appendByte_rssi (b : Byte) (s : State) : (appendByte b s).rssi = s.rssi := rfl
@[simp] theorem appendByte_batt (b : Byte) (s : State) : (appendByte b s).batt = s.batt := rfl
@[simp] theorem appendByte_nibVld (b : Byte) (s : State) : (appendByte b s).nibVld = s.nibVld := rfl
@[simp] theorem appendByte_tsign (b : Byte) (s : State) : (appendByte b s).tsign = s.tsign := rfl
@[simp] theorem appendByte_tmag (b : Byte) (s : State) : (appendByte b s).tmag = s.tmag := rfl
@[simp] theorem appendByte_temp (b : Byte) (s : State) : (appendByte b s).temp = s.temp := rfl
@[simp] theorem appendByte_tVld (b : Byte) (s : State) : (appendByte b s).tVld = s.tVld := rfl
@[simp] theorem appendByte_din (b : Byte) (s : State) : (appendByte b s).din = s.din := rfl
@[simp] theorem appendByte_port (b : Byte) (s : State) : (appendByte b s).port = s.port := rfl
@[simp] theorem appendByte_draw (b : Byte) (s : State) : (appendByte b s).draw = s.draw := rfl

/-! ### takePort -/

@[simp] theorem takePort_fb (r : List PortOp) (s : State) : (takePort r s).fb = s.fb := rfl
@[simp] theorem takePort_flen (r : List PortOp) (s : State) : (takePort r s).flen = s.flen := rfl
@[simp] theorem takePort_opstat (r : List PortOp) (s : State) : (takePort r s).opstat = s.opstat := rfl
@[simp] theorem takePort_fvalid (r : List PortOp) (s : State) : (takePort r s).fvalid = s.fvalid := rfl
@[simp] theorem takePort_ovf (r : List PortOp) (s : State) : (takePort r s).ovf = s.ovf := rfl
@[simp] theorem takePort_hdrvld (r : List PortOp) (s : State) : (takePort r s).hdrvld = s.hdrvld := rfl
@[simp] theorem takePort_cls (r : List PortOp) (s : State) : (takePort r s).cls = s.cls := rfl
@[simp] theorem takePort_subknown (r : List PortOp) (s : State) : (takePort r s).subknown = s.subknown := rfl
@[simp] theorem takePort_typ (r : List PortOp) (s : State) : (takePort r s).typ = s.typ := rfl
@[simp] theorem takePort_subtype (r : List PortOp) (s : State) : (takePort r s).subtype = s.subtype := rfl
@[simp] theorem takePort_seq (r : List PortOp) (s : State) : (takePort r s).seq = s.seq := rfl
@[simp] theorem takePort_acc (r : List PortOp) (s : State) : (takePort r s).acc = s.acc := rfl
@[simp] theorem takePort_accVld (r : List PortOp) (s : State) : (takePort r s).accVld = s.accVld := rfl
@[simp] theorem takePort_accDsel (r : List PortOp) (s : State) : (takePort r s).accDsel = s.accDsel := rfl
@[simp] theorem takePort_rssi (r : List PortOp) (s : State) : (takePort r s).rssi = s.rssi := rfl
@[simp] theorem takePort_batt (r : List PortOp) (s : State) : (takePort r s).batt = s.batt := rfl
@[simp] theorem takePort_nibVld (r : List PortOp) (s : State) : (takePort r s).nibVld = s.nibVld := rfl
@[simp] theorem takePort_tsign (r : List PortOp) (s : State) : (takePort r s).tsign = s.tsign := rfl
@[simp] theorem takePort_tmag (r : List PortOp) (s : State) : (takePort r s).tmag = s.tmag := rfl
@[simp] theorem takePort_temp (r : List PortOp) (s : State) : (takePort r s).temp = s.temp := rfl
@[simp] theorem takePort_tVld (r : List PortOp) (s : State) : (takePort r s).tVld = s.tVld := rfl
@[simp] theorem takePort_din (r : List PortOp) (s : State) : (takePort r s).din = s.din := rfl
@[simp] theorem takePort_port (r : List PortOp) (s : State) : (takePort r s).port = r := rfl
@[simp] theorem takePort_draw (r : List PortOp) (s : State) : (takePort r s).draw = s.draw := rfl

/-! ### freshDraw -/

@[simp] theorem freshDraw_fb (s : State) : (freshDraw s).fb = s.fb := rfl
@[simp] theorem freshDraw_flen (s : State) : (freshDraw s).flen = s.flen := rfl
@[simp] theorem freshDraw_opstat (s : State) : (freshDraw s).opstat = s.opstat := rfl
@[simp] theorem freshDraw_fvalid (s : State) : (freshDraw s).fvalid = s.fvalid := rfl
@[simp] theorem freshDraw_ovf (s : State) : (freshDraw s).ovf = s.ovf := rfl
@[simp] theorem freshDraw_hdrvld (s : State) : (freshDraw s).hdrvld = s.hdrvld := rfl
@[simp] theorem freshDraw_cls (s : State) : (freshDraw s).cls = s.cls := rfl
@[simp] theorem freshDraw_subknown (s : State) : (freshDraw s).subknown = s.subknown := rfl
@[simp] theorem freshDraw_typ (s : State) : (freshDraw s).typ = s.typ := rfl
@[simp] theorem freshDraw_subtype (s : State) : (freshDraw s).subtype = s.subtype := rfl
@[simp] theorem freshDraw_seq (s : State) : (freshDraw s).seq = s.seq := rfl
@[simp] theorem freshDraw_acc (s : State) : (freshDraw s).acc = s.acc := rfl
@[simp] theorem freshDraw_accVld (s : State) : (freshDraw s).accVld = s.accVld := rfl
@[simp] theorem freshDraw_accDsel (s : State) : (freshDraw s).accDsel = s.accDsel := rfl
@[simp] theorem freshDraw_rssi (s : State) : (freshDraw s).rssi = s.rssi := rfl
@[simp] theorem freshDraw_batt (s : State) : (freshDraw s).batt = s.batt := rfl
@[simp] theorem freshDraw_nibVld (s : State) : (freshDraw s).nibVld = s.nibVld := rfl
@[simp] theorem freshDraw_tsign (s : State) : (freshDraw s).tsign = s.tsign := rfl
@[simp] theorem freshDraw_tmag (s : State) : (freshDraw s).tmag = s.tmag := rfl
@[simp] theorem freshDraw_temp (s : State) : (freshDraw s).temp = s.temp := rfl
@[simp] theorem freshDraw_tVld (s : State) : (freshDraw s).tVld = s.tVld := rfl
@[simp] theorem freshDraw_din (s : State) : (freshDraw s).din = s.din := rfl
@[simp] theorem freshDraw_port (s : State) : (freshDraw s).port = s.port := rfl
@[simp] theorem freshDraw_draw (s : State) : (freshDraw s).draw = s.draw + 1 := rfl

/-! ### clearRegisters: the Reset column, with the fields that are no register -/

@[simp] theorem clearRegisters_fb (s : State) : (clearRegisters s).fb = s.fb := rfl
@[simp] theorem clearRegisters_flen (s : State) : (clearRegisters s).flen = State.reset.flen := rfl
@[simp] theorem clearRegisters_opstat (s : State) : (clearRegisters s).opstat = State.reset.opstat := rfl
@[simp] theorem clearRegisters_fvalid (s : State) : (clearRegisters s).fvalid = State.reset.fvalid := rfl
@[simp] theorem clearRegisters_ovf (s : State) : (clearRegisters s).ovf = State.reset.ovf := rfl
@[simp] theorem clearRegisters_hdrvld (s : State) : (clearRegisters s).hdrvld = State.reset.hdrvld := rfl
@[simp] theorem clearRegisters_cls (s : State) : (clearRegisters s).cls = State.reset.cls := rfl
@[simp] theorem clearRegisters_subknown (s : State) : (clearRegisters s).subknown = State.reset.subknown := rfl
@[simp] theorem clearRegisters_typ (s : State) : (clearRegisters s).typ = State.reset.typ := rfl
@[simp] theorem clearRegisters_subtype (s : State) : (clearRegisters s).subtype = State.reset.subtype := rfl
@[simp] theorem clearRegisters_seq (s : State) : (clearRegisters s).seq = State.reset.seq := rfl
@[simp] theorem clearRegisters_acc (s : State) : (clearRegisters s).acc = State.reset.acc := rfl
@[simp] theorem clearRegisters_accVld (s : State) : (clearRegisters s).accVld = State.reset.accVld := rfl
@[simp] theorem clearRegisters_accDsel (s : State) : (clearRegisters s).accDsel = State.reset.accDsel := rfl
@[simp] theorem clearRegisters_rssi (s : State) : (clearRegisters s).rssi = State.reset.rssi := rfl
@[simp] theorem clearRegisters_batt (s : State) : (clearRegisters s).batt = State.reset.batt := rfl
@[simp] theorem clearRegisters_nibVld (s : State) : (clearRegisters s).nibVld = State.reset.nibVld := rfl
@[simp] theorem clearRegisters_tsign (s : State) : (clearRegisters s).tsign = State.reset.tsign := rfl
@[simp] theorem clearRegisters_tmag (s : State) : (clearRegisters s).tmag = State.reset.tmag := rfl
@[simp] theorem clearRegisters_temp (s : State) : (clearRegisters s).temp = State.reset.temp := rfl
@[simp] theorem clearRegisters_tVld (s : State) : (clearRegisters s).tVld = State.reset.tVld := rfl
@[simp] theorem clearRegisters_din (s : State) : (clearRegisters s).din = State.reset.din := rfl
@[simp] theorem clearRegisters_port (s : State) : (clearRegisters s).port = s.port := rfl
@[simp] theorem clearRegisters_draw (s : State) : (clearRegisters s).draw = s.draw := rfl

/-! ### resetPort: the Reset column, with the fields that are no register -/

@[simp] theorem resetPort_fb (s : State) : (resetPort s).fb = State.reset.fb := rfl
@[simp] theorem resetPort_flen (s : State) : (resetPort s).flen = State.reset.flen := rfl
@[simp] theorem resetPort_opstat (s : State) : (resetPort s).opstat = State.reset.opstat := rfl
@[simp] theorem resetPort_fvalid (s : State) : (resetPort s).fvalid = State.reset.fvalid := rfl
@[simp] theorem resetPort_ovf (s : State) : (resetPort s).ovf = State.reset.ovf := rfl
@[simp] theorem resetPort_hdrvld (s : State) : (resetPort s).hdrvld = State.reset.hdrvld := rfl
@[simp] theorem resetPort_cls (s : State) : (resetPort s).cls = State.reset.cls := rfl
@[simp] theorem resetPort_subknown (s : State) : (resetPort s).subknown = State.reset.subknown := rfl
@[simp] theorem resetPort_typ (s : State) : (resetPort s).typ = State.reset.typ := rfl
@[simp] theorem resetPort_subtype (s : State) : (resetPort s).subtype = State.reset.subtype := rfl
@[simp] theorem resetPort_seq (s : State) : (resetPort s).seq = State.reset.seq := rfl
@[simp] theorem resetPort_acc (s : State) : (resetPort s).acc = State.reset.acc := rfl
@[simp] theorem resetPort_accVld (s : State) : (resetPort s).accVld = State.reset.accVld := rfl
@[simp] theorem resetPort_accDsel (s : State) : (resetPort s).accDsel = State.reset.accDsel := rfl
@[simp] theorem resetPort_rssi (s : State) : (resetPort s).rssi = State.reset.rssi := rfl
@[simp] theorem resetPort_batt (s : State) : (resetPort s).batt = State.reset.batt := rfl
@[simp] theorem resetPort_nibVld (s : State) : (resetPort s).nibVld = State.reset.nibVld := rfl
@[simp] theorem resetPort_tsign (s : State) : (resetPort s).tsign = State.reset.tsign := rfl
@[simp] theorem resetPort_tmag (s : State) : (resetPort s).tmag = State.reset.tmag := rfl
@[simp] theorem resetPort_temp (s : State) : (resetPort s).temp = State.reset.temp := rfl
@[simp] theorem resetPort_tVld (s : State) : (resetPort s).tVld = State.reset.tVld := rfl
@[simp] theorem resetPort_din (s : State) : (resetPort s).din = State.reset.din := rfl
@[simp] theorem resetPort_port (s : State) : (resetPort s).port = s.port := rfl
@[simp] theorem resetPort_draw (s : State) : (resetPort s).draw = s.draw := rfl

/-! ### What an update that leaves FB and the draw alone leaves of a byte -/

@[simp] theorem raise_fbByte (e : Status) (s : State) (i : Nat) : (raise e s).fbByte i = s.fbByte i := rfl
@[simp] theorem succeed_fbByte (s : State) (i : Nat) : (succeed s).fbByte i = s.fbByte i := rfl
@[simp] theorem voidVerdict_fbByte (s : State) (i : Nat) : (voidVerdict s).fbByte i = s.fbByte i := rfl
@[simp] theorem setOverflow_fbByte (s : State) (i : Nat) : (setOverflow s).fbByte i = s.fbByte i := rfl
@[simp] theorem clearAcc_fbByte (s : State) (i : Nat) : (clearAcc s).fbByte i = s.fbByte i := rfl
@[simp] theorem clearNib_fbByte (s : State) (i : Nat) : (clearNib s).fbByte i = s.fbByte i := rfl
@[simp] theorem clearTemp_fbByte (s : State) (i : Nat) : (clearTemp s).fbByte i = s.fbByte i := rfl
@[simp] theorem clearHeader_fbByte (s : State) (i : Nat) : (clearHeader s).fbByte i = s.fbByte i := rfl
@[simp] theorem latchAcc_fbByte (v : BitVec 48) (d : BitVec 4) (s : State) (i : Nat) : (latchAcc v d s).fbByte i = s.fbByte i := rfl
@[simp] theorem latchNib_fbByte (b : Byte) (s : State) (i : Nat) : (latchNib b s).fbByte i = s.fbByte i := rfl
@[simp] theorem latchTemp_fbByte (g : Bool) (m : BitVec 15) (v : BitVec 16) (s : State) (i : Nat) : (latchTemp g m v s).fbByte i = s.fbByte i := rfl
@[simp] theorem latchHeader_fbByte (a b c : Byte) (k : FrameClass) (n : Bool) (s : State) (i : Nat) : (latchHeader a b c k n s).fbByte i = s.fbByte i := rfl
@[simp] theorem loadDin_fbByte (v : BitVec 48) (s : State) (i : Nat) : (loadDin v s).fbByte i = s.fbByte i := rfl
@[simp] theorem takePort_fbByte (r : List PortOp) (s : State) (i : Nat) : (takePort r s).fbByte i = s.fbByte i := rfl
@[simp] theorem clearRegisters_fbByte (s : State) (i : Nat) : (clearRegisters s).fbByte i = s.fbByte i := rfl

end Sys2Proof.Machine
end

