-- ==== Sys2Proof/Laws/Commands.lean ====
section
/-! SUPPORT. What each shared shape of a command can do, said once. -/

namespace Sys2Proof.Machine

/-- Every way a control command can end. -/
theorem controlCommand_cases (rowOk : Bool) (effect : State → State) (s : State) :
    (rowOk = false ∧ controlCommand rowOk effect s = raise .badOperand s) ∨
    (rowOk = true ∧ controlCommand rowOk effect s = succeed (effect s)) := by
  cases rowOk <;> simp [controlCommand]

/-- Every way a reading command can end, in the order of 60_exceptions.md R223. -/
theorem readCommand_cases (rowOk absent inside : Bool) (clear latch : State → State) (s : State) :
    (rowOk = false ∧ readCommand rowOk absent inside clear latch s = raise .badOperand s) ∨
    (rowOk = true ∧ absent = true ∧
      readCommand rowOk absent inside clear latch s = raise .absent (clear s)) ∨
    (rowOk = true ∧ absent = false ∧ inside = false ∧
      readCommand rowOk absent inside clear latch s = raise .truncated (voidVerdict (clear s))) ∨
    (rowOk = true ∧ absent = false ∧ inside = true ∧
      readCommand rowOk absent inside clear latch s = succeed (latch s)) := by
  cases rowOk <;> cases absent <;> cases inside <;> simp [readCommand]

/-- Every way a writing command can end, in the order of 60_exceptions.md R223. -/
theorem writeCommand_cases (rowOk valueOk inside : Bool) (store : State → State) (s : State) :
    ((rowOk = false ∨ valueOk = false) ∧
      writeCommand rowOk valueOk inside store s = raise .badOperand s) ∨
    (rowOk = true ∧ valueOk = true ∧ inside = false ∧
      writeCommand rowOk valueOk inside store s = raise .truncated s) ∨
    (rowOk = true ∧ valueOk = true ∧ inside = true ∧
      writeCommand rowOk valueOk inside store s = succeed (voidVerdict (store s))) := by
  cases rowOk <;> cases valueOk <;> cases inside <;> simp [writeCommand]

@[simp] theorem insideFrame_iff (s : State) (o n : Nat) : insideFrame s o n = true ↔ o + n ≤ s.flen.val := by
  simp [insideFrame]

theorem nextLength_val {n : Fin 257} (h : n.val < 256) : (nextLength n).val = n.val + 1 := by
  simp [nextLength, h]

end Sys2Proof.Machine
end

