-- ==== Sys2Proof/Laws/Exec.lean ====
section
/-! SUPPORT. Everything a command can do, said once: `exec_ends`. A proof over all commands cases on it instead of
unfolding the meanings. -/

namespace Sys2Proof.Machine

/-- The ways a command can end, each with what its checks have established. -/
inductive Ends (s : State) : Instr → State → Prop
  | illegalE (r) : Ends s (.reservedE r) (raise .illegalOp s)
  | illegalF (r) : Ends s (.reservedF r) (raise .illegalOp s)
  | badOperand (i) (h : i.isReserved = false) : Ends s i (raise .badOperand s)
  | nop (f) (row : rowNop f = true) : Ends s (.nop f) (succeed s)
  | clr (f) (row : rowClr f = true) : Ends s (.clr f) (succeed (clearRegisters s))
  | ldin (f) (row : rowLdin f = true) : Ends s (.ldin f) (succeed (loadDin f.imm s))
  | push (f) (row : rowPush f = true) (room : s.flen.val < 256) :
      Ends s (.push f) (succeed (voidVerdict (appendByte (pushByte f) s)))
  | pushFull (f) (row : rowPush f = true) (full : s.flen.val = 256) :
      Ends s (.push f) (raise .overflow (voidVerdict (setOverflow s)))
  | dispatch (f e) (row : rowDispatch f = true) (framed : framingBad s = false)
      (entry : registry (s.fbByte 1) = some e) (header : 4 ≤ s.flen.val) :
      Ends s (.dispatch f) (succeed (captureHeader e s))
  | dispatchFails (f c) (code : c = .framing ∨ c = .unknownType ∨ c = .truncated) :
      Ends s (.dispatch f) (dispatchFail c s)
  | slice (f) (row : rowSlice f = true) (inside : windowInside f s = true) :
      Ends s (.slice f) (succeed (latchSlice f s))
  | sliceAbsent (f) : Ends s (.slice f) (raise .absent (clearAcc s))
  | sliceTruncated (f) : Ends s (.slice f) (raise .truncated (voidVerdict (clearAcc s)))
  | unpack (f) (row : rowUnpack f = true) (inside : windowInside f s = true) :
      Ends s (.unpack f) (succeed (latchInteger f s))
  | unpackAbsent (f) : Ends s (.unpack f) (raise .absent (clearAcc s))
  | unpackTruncated (f) : Ends s (.unpack f) (raise .truncated (voidVerdict (clearAcc s)))
  | nsplit (f) (row : rowNsplit f = true) (inside : nibbleInside f s = true) :
      Ends s (.nsplit f) (succeed (latchNib (s.fbByte (nibbleAddress f s)) s))
  | nsplitAbsent (f) : Ends s (.nsplit f) (raise .absent (clearNib s))
  | nsplitTruncated (f) : Ends s (.nsplit f) (raise .truncated (voidVerdict (clearNib s)))
  | tdec (f) (row : rowTdec f = true) (inside : insideFrame s (windowOffset f) 2 = true) :
      Ends s (.tdec f)
        (succeed (latchTemperature (s.fbByte (windowOffset f)) (s.fbByte (windowOffset f + 1)) s))
  | tdecAbsent (f) : Ends s (.tdec f) (raise .absent (clearTemp s))
  | tdecTruncated (f) : Ends s (.tdec f) (raise .truncated (voidVerdict (clearTemp s)))
  | insert (f) (row : rowInsert f = true) (fits : dinValue s < 2 ^ f.wid.toNat)
      (inside : windowInside f s = true) : Ends s (.insert f) (succeed (voidVerdict (storeField f s)))
  | insertTruncated (f) : Ends s (.insert f) (raise .truncated s)
  | pack (f) (row : rowPack f = true) (fits : dinValue s < 2 ^ (8 * windowLength f))
      (inside : windowInside f s = true) : Ends s (.pack f) (succeed (voidVerdict (storeInteger f s)))
  | packTruncated (f) : Ends s (.pack f) (raise .truncated s)
  | npack (f) (row : rowNpack f = true) (fits : dinValue s < 2 ^ 8) (inside : nibbleInside f s = true) :
      Ends s (.npack f) (succeed (voidVerdict (s.setByte (nibbleAddress f s) (packNibbles s.din))))
  | npackTruncated (f) : Ends s (.npack f) (raise .truncated s)
  | tenc (f) (row : rowTenc f = true) (fits : tempEncodable (dinSigned s) f.t = true)
      (inside : insideFrame s (windowOffset f) 2 = true) :
      Ends s (.tenc f) (succeed (voidVerdict (storeTemperature f s)))
  | tencTruncated (f) : Ends s (.tenc f) (raise .truncated s)
  | final (f) (row : rowFinal f = true) (inside : insideFrame s 0 1 = true) :
      Ends s (.final f) (succeed (voidVerdict (s.setByte 0 (lengthByte s))))
  | finalTruncated (f) : Ends s (.final f) (raise .truncated s)

/-- A control command ends in one of its two ways. -/
theorem ends_of_control {i : Instr} {s : State} {rowOk : Bool} {effect : State → State}
    (legal : i.isReserved = false) (ok : rowOk = true → Ends s i (succeed (effect s))) :
    Ends s i (controlCommand rowOk effect s) := by
  rcases controlCommand_cases rowOk effect s with ⟨-, h⟩ | ⟨row, h⟩ <;> rw [h]
  · exact .badOperand i legal
  · exact ok row

/-- A reading command ends in one of its four ways. -/
theorem ends_of_read {i : Instr} {s : State} {rowOk absent inside : Bool} {clear latch : State → State}
    (legal : i.isReserved = false) (noField : Ends s i (raise .absent (clear s)))
    (short : Ends s i (raise .truncated (voidVerdict (clear s))))
    (ok : rowOk = true → inside = true → Ends s i (succeed (latch s))) :
    Ends s i (readCommand rowOk absent inside clear latch s) := by
  rcases readCommand_cases rowOk absent inside clear latch s with
    ⟨-, h⟩ | ⟨-, -, h⟩ | ⟨-, -, -, h⟩ | ⟨row, -, hin, h⟩ <;> rw [h]
  · exact .badOperand i legal
  · exact noField
  · exact short
  · exact ok row hin

/-- A writing command ends in one of its three ways. -/
theorem ends_of_write {i : Instr} {s : State} {rowOk valueOk inside : Bool} {store : State → State}
    (legal : i.isReserved = false) (short : Ends s i (raise .truncated s))
    (ok : rowOk = true → valueOk = true → inside = true → Ends s i (succeed (voidVerdict (store s)))) :
    Ends s i (writeCommand rowOk valueOk inside store s) := by
  rcases writeCommand_cases rowOk valueOk inside store s with ⟨-, h⟩ | ⟨-, -, -, h⟩ | ⟨row, val, hin, h⟩ <;> rw [h]
  · exact .badOperand i legal
  · exact short
  · exact ok row val hin

/-- DISPATCH ends in BAD_OPERAND, one of its three failures, or the header captured (44_dispatch.md R181). -/
theorem execDispatch_ends {f : FieldsX} {s t : State} (h : execDispatch f s = .next t) : Ends s (.dispatch f) t := by
  simp only [execDispatch, Host.Outcome.next.injEq] at h
  split at h
  · exact h ▸ .badOperand _ rfl
  split at h
  · exact h ▸ .dispatchFails f _ (.inl rfl)
  split at h
  · exact h ▸ .dispatchFails f _ (.inr (.inl rfl))
  split at h
  · exact h ▸ .dispatchFails f _ (.inr (.inr rfl))
  · exact h ▸ .dispatch f _ (by simp_all) (by simp_all) (by assumption) (by omega)

/-- PUSH ends in BAD_OPERAND, OVERFLOW or the byte appended (40_frame.md R103). -/
theorem execPush_ends {f : FieldsD} {s t : State} (h : execPush f s = .next t) : Ends s (.push f) t := by
  have := s.flen.isLt
  simp only [execPush, Host.Outcome.next.injEq] at h
  split at h
  · exact h ▸ .badOperand _ rfl
  split at h
  · exact h ▸ .pushFull f (by simp_all) (by assumption)
  · exact h ▸ .push f (by simp_all) (by omega)

/-- Every command ends in one of the ways of `Ends`. -/
theorem exec_ends {i : Instr} {s t : State} (h : exec i s = .next t) : Ends s i t := by
  cases i with
  | push f => exact execPush_ends h
  | dispatch f => exact execDispatch_ends h
  | nop f => cases h; exact ends_of_control rfl (.nop f)
  | clr f => cases h; exact ends_of_control rfl (.clr f)
  | ldin f => cases h; exact ends_of_control rfl (.ldin f)
  | slice f => cases h; exact ends_of_read rfl (.sliceAbsent f) (.sliceTruncated f) (.slice f)
  | unpack f => cases h; exact ends_of_read rfl (.unpackAbsent f) (.unpackTruncated f) (.unpack f)
  | nsplit f => cases h; exact ends_of_read rfl (.nsplitAbsent f) (.nsplitTruncated f) (.nsplit f)
  | tdec f => cases h; exact ends_of_read rfl (.tdecAbsent f) (.tdecTruncated f) (.tdec f)
  | insert f =>
    cases h; exact ends_of_write rfl (.insertTruncated f) fun r v w => .insert f r (of_decide_eq_true v) w
  | pack f => cases h; exact ends_of_write rfl (.packTruncated f) fun r v w => .pack f r (of_decide_eq_true v) w
  | npack f => cases h; exact ends_of_write rfl (.npackTruncated f) fun r v w => .npack f r (of_decide_eq_true v) w
  | tenc f => cases h; exact ends_of_write rfl (.tencTruncated f) (.tenc f)
  | final f => cases h; exact ends_of_write rfl (.finalTruncated f) fun r _ w => .final f r w
  | reservedE r => cases h; exact .illegalE r
  | reservedF r => cases h; exact .illegalF r

end Sys2Proof.Machine
end

