-- ==== Sys2Proof/Laws/PerInstr.lean ====
section
/-! SUPPORT. Statements for all instructions, one lemma per constructor. `OpcodeField`: the top four bits of a
command's word are its opcode, so `decode` takes the command's own arm (30_encoding.md R71, R74, R75). -/

namespace Sys2Proof.Laws

/-- The high part of two joined words. -/
theorem extractLsb'_append_high {m n : Nat} (x : BitVec m) (y : BitVec n) :
    (x ++ y).extractLsb' n m = x := by
  ext i hi
  simp [BitVec.getLsbD_append, hi]

/-- A field inside the low part of two joined words. -/
theorem extractLsb'_append_low {m n : Nat} (x : BitVec m) (y : BitVec n) {k l : Nat} (h : k + l ≤ n) :
    (x ++ y).extractLsb' k l = y.extractLsb' k l := by
  ext i hi
  simp only [BitVec.getElem_extractLsb', BitVec.getLsbD_append]
  rw [if_pos (by omega)]

theorem readOpcode_writeFieldsD (opc : BitVec 4) (f : FieldsD) : readOpcode (writeFieldsD opc f) = opc :=
  extractLsb'_append_high opc (f.rsvd ++ f.imm)

theorem readOpcode_writeFieldsX (opc : BitVec 4) (f : FieldsX) : readOpcode (writeFieldsX opc f) = opc :=
  extractLsb'_append_high opc (f.off ++ (f.nb ++ (f.lsb ++ (f.wid ++ (BitVec.ofBool f.abs ++ (f.dsel ++
    (BitVec.ofBool f.t ++ f.rsv)))))))

theorem readOpcode_append (opc : BitVec 4) (r : BitVec 60) : readOpcode (opc ++ r) = opc :=
  extractLsb'_append_high opc r

/-- The word of an instruction has its opcode in bits 63:60. -/
def OpcodeField.Statement (i : Instr) : Prop := readOpcode (encode i) = opcodeOf i

theorem OpcodeField.nop (f : FieldsD) : OpcodeField.Statement (.nop f) := readOpcode_writeFieldsD _ f
theorem OpcodeField.clr (f : FieldsD) : OpcodeField.Statement (.clr f) := readOpcode_writeFieldsD _ f
theorem OpcodeField.push (f : FieldsD) : OpcodeField.Statement (.push f) := readOpcode_writeFieldsD _ f
theorem OpcodeField.ldin (f : FieldsD) : OpcodeField.Statement (.ldin f) := readOpcode_writeFieldsD _ f
theorem OpcodeField.dispatch (f : FieldsX) : OpcodeField.Statement (.dispatch f) := readOpcode_writeFieldsX _ f
theorem OpcodeField.slice (f : FieldsX) : OpcodeField.Statement (.slice f) := readOpcode_writeFieldsX _ f
theorem OpcodeField.unpack (f : FieldsX) : OpcodeField.Statement (.unpack f) := readOpcode_writeFieldsX _ f
theorem OpcodeField.nsplit (f : FieldsX) : OpcodeField.Statement (.nsplit f) := readOpcode_writeFieldsX _ f
theorem OpcodeField.tdec (f : FieldsX) : OpcodeField.Statement (.tdec f) := readOpcode_writeFieldsX _ f
theorem OpcodeField.insert (f : FieldsX) : OpcodeField.Statement (.insert f) := readOpcode_writeFieldsX _ f
theorem OpcodeField.pack (f : FieldsX) : OpcodeField.Statement (.pack f) := readOpcode_writeFieldsX _ f
theorem OpcodeField.npack (f : FieldsX) : OpcodeField.Statement (.npack f) := readOpcode_writeFieldsX _ f
theorem OpcodeField.tenc (f : FieldsX) : OpcodeField.Statement (.tenc f) := readOpcode_writeFieldsX _ f
theorem OpcodeField.final (f : FieldsX) : OpcodeField.Statement (.final f) := readOpcode_writeFieldsX _ f
theorem OpcodeField.reservedE (r : BitVec 60) : OpcodeField.Statement (.reservedE r) := readOpcode_append _ r
theorem OpcodeField.reservedF (r : BitVec 60) : OpcodeField.Statement (.reservedF r) := readOpcode_append _ r

end Sys2Proof.Laws
end

