-- ==== Sys2Proof/Tests/Slice0.lean ====
section
/-! SUPPORT. Tests of the model. Expected results are the spec's: the words of 30_encoding.md R86 and
95_test_vectors.md, the vectors V-… of 95_test_vectors.md, and the rows of 30_encoding.md R76. The last part shows,
for each statement with hypotheses, operands and states that meet them, clause by clause, at the boundaries. -/

open Sys2Proof Sys2Proof.Machine Sys2Proof.Claims

namespace Sys2Proof.Tests

/-! ### Helpers -/

/-- The reset state with these bytes as its frame. -/
def framed (bytes : List Byte) : State :=
  { State.reset with fb := bytes.zipIdx.map fun p => (p.2, p.1), flen := Fin.ofNat 257 bytes.length }

/-- The reset state with a frame of n bytes that no command wrote. -/
def sized (n : Nat) : State := { State.reset with flen := Fin.ofNat 257 n }

/-- The command answers a next state, and p holds of it. -/
def after (i : Instr) (s : State) (p : State → Bool) : Bool :=
  match exec i s with
  | .next t => p t
  | .fault _ => false
  | .refused _ => false

/-- The step answers a next state, and p holds of it. -/
def afterStep (s : State) (p : State → Bool) : Bool :=
  match step s with
  | .next t => p t
  | .fault _ => false
  | .refused _ => false

/-- The Rain frame of V-S2. -/
def rain : State := framed [0x0B, 0x55, 0x02, 0x03, 0x12, 0x34, 0x02, 0x50, 0x01, 0x23, 0x45, 0x57]

/-- The Lighting1 frame of V-S1. -/
def lighting : State := framed [0x07, 0x10, 0x00, 0x2A, 0x45, 0x05, 0x01, 0x70]

/-- The frame of the vectors V-B1 to V-B21. -/
def packed : State := framed [0x07, 0x20, 0x00, 0x00, 0xC5, 0x3A, 0xB7, 0x9E]

/-! ### Well-formedness: every check refuses a word outside its row of R76 -/

theorem smoke_nop_clr :
    Instr.wellFormed (.nop zeroD) = true ∧ Instr.wellFormed (.nop ⟨1, 0⟩) = false ∧
    Instr.wellFormed (.nop ⟨0, 1⟩) = false ∧ Instr.wellFormed (.clr zeroD) = true ∧
    Instr.wellFormed (.clr ⟨0x800, 0⟩) = false ∧ Instr.wellFormed (.clr ⟨0, 1⟩) = false := by decide

theorem smoke_push_ldin :
    Instr.wellFormed (.push ⟨0, 0xFF⟩) = true ∧ Instr.wellFormed (.push ⟨0, 0x100⟩) = false ∧
    Instr.wellFormed (.push ⟨1, 0⟩) = false ∧ Instr.wellFormed (.ldin ⟨0, 0xFFFFFFFFFFFF⟩) = true ∧
    Instr.wellFormed (.ldin ⟨1, 0⟩) = false := by decide

/-- One field set in a word whose fields are all 0. -/
def oneFieldSet : List FieldsX :=
  [{ zeroX with off := 1 }, { zeroX with nb := 1 }, { zeroX with lsb := 1 }, { zeroX with wid := 1 },
    { zeroX with abs := true }, { zeroX with dsel := 1 }, { zeroX with t := true }, { zeroX with rsv := 1 }]

theorem smoke_dispatch_final :
    Instr.wellFormed (.dispatch zeroX) = true ∧ Instr.wellFormed (.final zeroX) = true ∧
    (oneFieldSet.all fun f => !Instr.wellFormed (.dispatch f) && !Instr.wellFormed (.final f)) = true := by decide

theorem smoke_slice :
    Instr.wellFormed (.slice { zeroX with nb := 6, wid := 48, abs := true }) = true ∧
    ([{ zeroX with wid := 1 }, { zeroX with nb := 7, wid := 1 }, { zeroX with nb := 1 },
      { zeroX with nb := 6, wid := 49 }, { zeroX with nb := 1, lsb := 1, wid := 8 },
      { zeroX with nb := 1, wid := 8, dsel := 1 }, { zeroX with nb := 1, wid := 8, t := true },
      { zeroX with nb := 1, wid := 8, rsv := 1 }].all fun f => !Instr.wellFormed (.slice f)) = true := by decide

theorem smoke_insert :
    Instr.wellFormed (.insert { zeroX with nb := 6, wid := 48 }) = true ∧
    ([{ zeroX with wid := 1 }, { zeroX with nb := 7, wid := 1 }, { zeroX with nb := 1 },
      { zeroX with nb := 6, wid := 49 }, { zeroX with nb := 1, lsb := 1, wid := 8 },
      { zeroX with nb := 1, wid := 8, abs := true }, { zeroX with nb := 1, wid := 8, dsel := 1 },
      { zeroX with nb := 1, wid := 8, t := true }, { zeroX with nb := 1, wid := 8, rsv := 1 }].all
        fun f => !Instr.wellFormed (.insert f)) = true := by decide

theorem smoke_unpack :
    Instr.wellFormed (.unpack { zeroX with nb := 6, abs := true, dsel := 3 }) = true ∧
    ([{ zeroX with nb := 0 }, { zeroX with nb := 7 }, { zeroX with nb := 1, lsb := 1 },
      { zeroX with nb := 1, wid := 1 }, { zeroX with nb := 1, t := true }, { zeroX with nb := 1, rsv := 1 }].all
        fun f => !Instr.wellFormed (.unpack f)) = true := by decide

theorem smoke_pack :
    Instr.wellFormed (.pack { zeroX with off := 255, nb := 6 }) = true ∧
    ([{ zeroX with nb := 0 }, { zeroX with nb := 7 }, { zeroX with nb := 1, lsb := 1 },
      { zeroX with nb := 1, wid := 1 }, { zeroX with nb := 1, abs := true }, { zeroX with nb := 1, dsel := 1 },
      { zeroX with nb := 1, t := true }, { zeroX with nb := 1, rsv := 1 }].all
        fun f => !Instr.wellFormed (.pack f)) = true := by decide

theorem smoke_nsplit :
    Instr.wellFormed (.nsplit { zeroX with nb := 1, abs := true, t := true }) = true ∧
    ([{ zeroX with nb := 0 }, { zeroX with nb := 2 }, { zeroX with nb := 1, lsb := 1 },
      { zeroX with nb := 1, wid := 1 }, { zeroX with nb := 1, dsel := 1 },
      { zeroX with nb := 1, off := 3, t := true }, { zeroX with nb := 1, rsv := 1 }].all
        fun f => !Instr.wellFormed (.nsplit f)) = true := by decide

theorem smoke_npack :
    Instr.wellFormed (.npack { zeroX with nb := 1, off := 255 }) = true ∧
    ([{ zeroX with nb := 0 }, { zeroX with nb := 2 }, { zeroX with nb := 1, lsb := 1 },
      { zeroX with nb := 1, wid := 1 }, { zeroX with nb := 1, abs := true }, { zeroX with nb := 1, dsel := 1 },
      { zeroX with nb := 1, off := 3, t := true }, { zeroX with nb := 1, rsv := 1 }].all
        fun f => !Instr.wellFormed (.npack f)) = true := by decide

theorem smoke_tdec :
    Instr.wellFormed (.tdec { zeroX with nb := 2, abs := true }) = true ∧
    ([{ zeroX with nb := 1 }, { zeroX with nb := 3 }, { zeroX with nb := 2, lsb := 1 },
      { zeroX with nb := 2, wid := 1 }, { zeroX with nb := 2, dsel := 1 }, { zeroX with nb := 2, t := true },
      { zeroX with nb := 2, rsv := 1 }].all fun f => !Instr.wellFormed (.tdec f)) = true := by decide

theorem smoke_tenc :
    Instr.wellFormed (.tenc { zeroX with nb := 2, t := true }) = true ∧
    ([{ zeroX with nb := 1 }, { zeroX with nb := 3 }, { zeroX with nb := 2, lsb := 1 },
      { zeroX with nb := 2, wid := 1 }, { zeroX with nb := 2, abs := true }, { zeroX with nb := 2, dsel := 1 },
      { zeroX with nb := 2, rsv := 1 }].all fun f => !Instr.wellFormed (.tenc f)) = true := by decide

/-! ### Decoding: words written out from R72, R73 and R88, or given by 95_test_vectors.md -/

theorem decode_nop_word : decode 0x0000000000000001 = .nop ⟨0, 1⟩ := by decide
theorem decode_clr_word : decode 0x1000000000000000 = .clr zeroD := by decide
theorem decode_push_word : decode 0x2000000000000100 = .push ⟨0, 0x100⟩ := by decide
theorem decode_ldin_word : decode 0x3001FFFFFFFFFF01 = .ldin ⟨1, 0xFFFFFFFFFF01⟩ := by decide
theorem decode_dispatch_word : decode 0x4000000000000001 = .dispatch { zeroX with rsv := 1 } := by decide
theorem decode_slice_word :
    decode 0x5048D04000000000 = .slice { zeroX with off := 4, nb := 4, lsb := 26, wid := 2 } := by decide
theorem decode_unpack_word :
    decode 0x6C84001000000000 = .unpack { zeroX with off := 200, nb := 2, abs := true } := by decide
theorem decode_nsplit_word :
    decode 0x7002001080000000 = .nsplit { zeroX with nb := 1, abs := true, t := true } := by decide
theorem decode_tdec_word :
    decode 0x8FF4001000000000 = .tdec { zeroX with off := 255, nb := 2, abs := true } := by decide
theorem decode_insert_word :
    decode 0x9052304000000000 = .insert { zeroX with off := 5, nb := 1, lsb := 6, wid := 2 } := by decide
theorem decode_pack_word : decode 0xA02C000000000000 = .pack { zeroX with off := 2, nb := 6 } := by decide
theorem decode_npack_word : decode 0xB002000080000000 = .npack { zeroX with nb := 1, t := true } := by decide
theorem decode_tenc_word :
    decode 0xC044000080000000 = .tenc { zeroX with off := 4, nb := 2, t := true } := by decide
theorem decode_final_word : decode 0xD000000000000000 = .final zeroX := by decide
theorem decode_reservedE_word : decode 0xE000000000000000 = .reservedE 0 := by decide
theorem decode_reservedF_word : decode 0xFFFFFFFFFFFFFFFF = .reservedF 0xFFFFFFFFFFFFFFF := by decide

theorem encode_words :
    encode (.unpack { zeroX with off := 6, nb := 2, dsel := 2 }) = 0x6064000200000000 ∧
    encode (.slice { zeroX with off := 4, nb := 1, lsb := 7, wid := 1 }) = 0x5042382000000000 ∧
    encode (.tdec { zeroX with off := 4, nb := 2 }) = 0x8044000000000000 := by decide

theorem table_word_decodes :
    decodeTableWord 64 0x7002000080000000 = some (.nsplit { zeroX with nb := 1, t := true }) ∧
    decodeTableWord 128 0 = none := by decide

theorem classified_words :
    classify 0x6040000000000000 = .badOperand ∧ classify 0xE000000000000000 = .illegalOp ∧
    classify 0x2000000000000007 = .command (.push ⟨0, 7⟩) := by decide

/-! ### One step of each command, values from 95_test_vectors.md -/

theorem test_nop_word_with_imm : after (.nop ⟨0, 1⟩) rain (fun t => decide (t = { rain with opstat := .badOperand })) := by
  decide
theorem test_clr_keeps_no_register :
    after (.clr zeroD) { rain with acc := 5, accVld := true, din := 9 }
      (fun t => decide (t = { State.reset with fb := rain.fb })) := by decide
theorem test_push_second_byte :
    after (.push ⟨0, 0x10⟩) (framed [0x07]) (fun t => decide (frameBytes t = [0x07, 0x10] ∧ t.opstat = .ok)) := by
  decide
theorem test_push_at_256 :
    after (.push zeroD) (sized 256) (fun t => decide (t.ovf = true ∧ t.flen = 256 ∧ t.opstat = .overflow)) := by decide
theorem test_ldin_negative :
    after (.ldin ⟨0, 0xFFFFFFFFFF01⟩) State.reset (fun t => decide (t.din.toInt = -255)) := by decide
theorem test_dispatch_lighting :
    after (.dispatch zeroX) lighting
      (fun t => decide (t.typ = 0x10 ∧ t.subtype = 0x00 ∧ t.seq = 0x2A ∧ t.cls = .control ∧ t.fvalid = true)) := by
  decide
theorem test_dispatch_rain_fstat : after (.dispatch zeroX) rain (fun t => decide (fstatWord t = 0x35)) := by decide
theorem test_slice_across_bytes :
    after (.slice { zeroX with off := 4, nb := 2, lsb := 4, wid := 8 }) packed (fun t => decide (t.acc = 0x53)) := by
  decide
theorem test_slice_bit_7 :
    after (.slice { zeroX with off := 4, nb := 1, lsb := 7, wid := 1 }) packed
      (fun t => decide (t.acc = 1 ∧ accstWord t = 1)) := by decide
theorem test_unpack_rainrate :
    after (.unpack { zeroX with off := 6, nb := 2, dsel := 2 }) rain
      (fun t => decide (t.acc = 592 ∧ accstWord t = 5)) := by decide
theorem test_unpack_past_the_frame :
    after (.unpack { zeroX with off := 7, nb := 6 }) { rain with fvalid := true, acc := 3, accVld := true }
      (fun t => decide (t.acc = 0 ∧ t.accVld = false ∧ t.fvalid = false ∧ t.opstat = .truncated)) := by decide
theorem test_nsplit_tail :
    after (.nsplit { zeroX with nb := 1, t := true }) rain (fun t => decide (nibWord t = 0x157)) := by decide
theorem test_nsplit_absent :
    after (.nsplit { zeroX with off := 11, nb := 1, abs := true }) { rain with fvalid := true, nibVld := true, rssi := 9 }
      (fun t => decide (nibWord t = 0 ∧ t.fvalid = true ∧ t.opstat = .absent)) := by decide
theorem test_tdec_minus_10 :
    after (.tdec { zeroX with off := 4, nb := 2 }) (framed [0x05, 0x50, 0x01, 0x00, 0x80, 0x64])
      (fun t => decide (tregWord t = 0x1FF9C8064)) := by decide
theorem test_tdec_negative_zero :
    after (.tdec { zeroX with off := 4, nb := 2 }) (framed [0x05, 0x50, 0x01, 0x00, 0x80, 0x00])
      (fun t => decide (tregWord t = 0x100008000) && isNegativeZero t) := by decide
theorem test_insert_keeps_the_top_nibble :
    after (.insert { zeroX with off := 4, nb := 4, wid := 28 }) { packed with din := 0x1234567, fvalid := true }
      (fun t => decide (frameBytes t = [0x07, 0x20, 0x00, 0x00, 0xC1, 0x23, 0x45, 0x67]) && !t.fvalid) := by decide
theorem test_insert_too_wide :
    after (.insert { zeroX with off := 4, nb := 1, lsb := 7, wid := 1 }) { packed with din := 2 }
      (fun t => decide (t = { packed with din := 2, opstat := .badOperand })) := by decide
theorem test_pack_three_bytes :
    after (.pack { zeroX with off := 4, nb := 3 })
      { framed [0x07, 0x11, 0x00, 0x09, 0x00, 0x00, 0x00, 0x70] with din := 0x123456 }
      (fun t => decide (frameBytes t = [0x07, 0x11, 0x00, 0x09, 0x12, 0x34, 0x56, 0x70])) := by decide
theorem test_pack_past_the_frame :
    after (.pack { zeroX with off := 7, nb := 2 }) { packed with din := 0xAB }
      (fun t => decide (t = { packed with din := 0xAB, opstat := .truncated })) := by decide
theorem test_npack_tail :
    after (.npack { zeroX with nb := 1, t := true }) { rain with din := 0xA3 }
      (fun t => decide (t.fbByte 11 = 0xA3 ∧ t.fbByte 10 = 0x45)) := by decide
theorem test_npack_too_wide :
    after (.npack { zeroX with off := 5, nb := 1 }) { rain with din := 0x100 }
      (fun t => decide (t.fb = rain.fb ∧ t.opstat = .badOperand)) := by decide
theorem test_tenc_minus_100 :
    after (.tenc { zeroX with off := 4, nb := 2 }) { framed [0, 0, 0, 0, 0, 0] with din := 0xFFFFFFFFFF9C }
      (fun t => decide (frameBytes t = [0, 0, 0, 0, 0x80, 0x64])) := by decide
theorem test_tenc_minus_32768 :
    after (.tenc { zeroX with off := 4, nb := 2 }) { framed [0, 0, 0, 0, 0, 0] with din := 0xFFFFFFFF8000 }
      (fun t => decide (t.opstat = .badOperand ∧ frameBytes t = [0, 0, 0, 0, 0, 0])) := by decide
theorem test_final_one_byte :
    after (.final zeroX) (framed [9]) (fun t => decide (frameBytes t = [0] ∧ t.opstat = .ok)) := by decide
theorem test_final_empty :
    after (.final zeroX) State.reset (fun t => decide (t.opstat = .truncated ∧ t.fb = [])) := by decide
theorem test_reserved_opcodes :
    after (.reservedE 0) (framed [1, 2]) (fun t => decide (t = { framed [1, 2] with opstat := .illegalOp })) ∧
    after (.reservedF 5) (framed [1, 2]) (fun t => decide (t = { framed [1, 2] with opstat := .illegalOp })) := by
  decide

/-! ### The port -/

theorem test_fetched_word_runs :
    afterStep (State.reset.withFetchWord 64 0x2000000000000007)
      (fun t => decide (frameBytes t = [0x07] ∧ t.opstat = .ok ∧ t.port = [])) := by decide
theorem test_reads :
    answer { rain with port := [.rdfb 11] } = some 0x57 ∧ answer { rain with port := [.rdreg 2] } = some 12 ∧
    answer { rain with port := [.rdreg 0x1F] } = some 0 := by decide
theorem test_scenario_2_values :
    scaledValue { State.reset with acc := 223666, accDsel := 3, accVld := true } = some 1000 ∧
    scaledValue { State.reset with acc := 592, accDsel := 2, accVld := true } = some (592 / 100) ∧
    scaledValue State.reset = none := by
  refine ⟨?_, ?_, ?_⟩ <;> simp [scaledValue, divtab, divisorValue, State.reset]

/-! ### The assembler -/

theorem test_assembler_text :
    assembleText "LDIN -255 ; two's complement".toList = .ok [0x3000FFFFFFFFFF01] ∧
    assembleText "SETF 4, 1, 7, 1, 0".toList = .ok [0x3000000000000000, 0x9042382000000000] ∧
    assembleText "PUSH 256".toList = .error .doesNotFit := by decide

/-! ### The hypotheses of the statements can be met -/

/-- A full frame whose header is that of a Lighting1 frame of 256 bytes (V-D12). -/
def fullLighting : State :=
  { State.reset with fb := [(0, 0xFF), (1, 0x10), (2, 0x00), (3, 0x00)], flen := 256 }

/-- The window of NB bytes that ends at the last byte of a full frame. -/
def lastWindow (nb : BitVec 3) : FieldsX := { zeroX with off := BitVec.ofNat 8 (256 - nb.toNat), nb := nb }

theorem witness_WellFormedWordsAreTheEncodingPatterns :
    (0xDFFFFFFFFFFFFFFF : CommandWord).toNat / 2 ^ 60 < 14 ∧ (0 : CommandWord).toNat / 2 ^ 60 < 14 := by decide

theorem witness_StepRunsTheDecodedCommand :
    ∃ t, ({ rain with port := [.cmd 0x7002000080000000, .rdreg 8] } : State).port =
        .cmd 0x7002000080000000 :: [.rdreg 8] ∧
      decode 0x7002000080000000 = .nsplit { zeroX with nb := 1, t := true } ∧
      exec (.nsplit { zeroX with nb := 1, t := true }) { rain with port := [.rdreg 8] } = .next t :=
  ⟨_, rfl, by decide, rfl⟩

theorem witness_HostReadsChangeNothing :
    ({ rain with port := [.rdreg 31] } : State).port = .rdreg 31 :: [] ∧
    ({ fullLighting with port := [.rdfb 255] } : State).port = .rdfb 255 :: [] ∧
    (255 : BitVec 8).toNat < fullLighting.flen.val := by decide

theorem witness_ResetLeavesTheResetColumn :
    ({ rain with port := [.reset, .rdreg 0] } : State).port = .reset :: [.rdreg 0] := by decide

theorem witness_IdlePortHoldsTheState : rain.port = [] := by decide

theorem witness_ReservedReadsAreZero :
    0x0B ≤ (0x0B : BitVec 5).toNat ∧ 0x0B ≤ (0x1F : BitVec 5).toNat ∧
    ({ rain with port := [.rdreg 0x0B] } : State).port = .rdreg 0x0B :: [] := by decide

theorem witness_RegisterMapFields :
    0x0B ≤ (0x0B : BitVec 5).toNat ∧ 0x0B ≤ (0x1F : BitVec 5).toNat := by decide

theorem witness_NoRegisterIsHidden :
    (∀ a : BitVec 5, rdReg State.reset a = rdReg { State.reset with fb := [(0, 7)], draw := 3 } a) ∧
    State.reset ≠ { State.reset with fb := [(0, 7)], draw := 3 } := ⟨fun _ => rfl, by decide⟩

theorem witness_NopRule_ClrRule : zeroD = zeroD ∧ (⟨0, 1⟩ : FieldsD) ≠ zeroD ∧ (⟨0x800, 0⟩ : FieldsD) ≠ zeroD := by
  decide

theorem witness_PushRule :
    ((⟨0, 0xFF⟩ : FieldsD).rsvd = 0 ∧ (⟨0, 0xFF⟩ : FieldsD).imm.toNat < 256 ∧ (sized 255).flen.val < 256) ∧
    ((⟨0, 0xFF⟩ : FieldsD).rsvd = 0 ∧ (⟨0, 0xFF⟩ : FieldsD).imm.toNat < 256 ∧ (sized 256).flen.val = 256) ∧
    (⟨1, 0⟩ : FieldsD).rsvd ≠ 0 ∧ 256 ≤ (⟨0, 0x100⟩ : FieldsD).imm.toNat := by decide

theorem witness_LdinRule :
    (⟨0, 0xFFFFFFFFFFFF⟩ : FieldsD).rsvd = 0 ∧ (⟨1, 0⟩ : FieldsD).rsvd ≠ 0 := by decide

theorem witness_FinalRule :
    1 ≤ (sized 1).flen.val ∧ 1 ≤ (sized 256).flen.val ∧ (sized 0).flen.val = 0 ∧
    ({ zeroX with rsv := 1 } : FieldsX) ≠ zeroX := by decide

theorem witness_DispatchRule_refused :
    ({ zeroX with off := 1 } : FieldsX) ≠ zeroX ∧ ({ sized 256 with ovf := true } : State).ovf = true ∧
    (sized 1).flen.val < 2 ∧ ((framed [0x02, 0x10]).fbByte 0).toNat + 1 ≠ (framed [0x02, 0x10]).flen.val := by decide

/-- The frame passes the framing check and has a registered type; with 2 and 3 bytes it is truncated. -/
theorem witness_DispatchRule_checked :
    ((framed [0x01, 0x10]).ovf = false ∧ 2 ≤ (framed [0x01, 0x10]).flen.val ∧
      ((framed [0x01, 0x10]).fbByte 0).toNat + 1 = (framed [0x01, 0x10]).flen.val) ∧
    ((framed [0x02, 0x55, 0x02]).ovf = false ∧ 2 ≤ (framed [0x02, 0x55, 0x02]).flen.val ∧
      ((framed [0x02, 0x55, 0x02]).fbByte 0).toNat + 1 = (framed [0x02, 0x55, 0x02]).flen.val) ∧
    (fullLighting.ovf = false ∧ 4 ≤ fullLighting.flen.val ∧
      (fullLighting.fbByte 0).toNat + 1 = fullLighting.flen.val) := by decide

theorem witness_DispatchRule_captured_and_UnknownSubtypeIsNotFatal :
    ∃ e, (framed [0x03, 0x55, 0x09, 0x00]).ovf = false ∧ 4 ≤ (framed [0x03, 0x55, 0x09, 0x00]).flen.val ∧
      ((framed [0x03, 0x55, 0x09, 0x00]).fbByte 0).toNat + 1 = (framed [0x03, 0x55, 0x09, 0x00]).flen.val ∧
      registry ((framed [0x03, 0x55, 0x09, 0x00]).fbByte 1) = some e :=
  ⟨_, by decide, by decide, by decide, rfl⟩

theorem witness_SliceRule :
    (sliceRow { lastWindow 6 with wid := 48 } ∧ (lastWindow 6).abs = false ∧
      (lastWindow 6).off.toNat + (lastWindow 6).nb.toNat ≤ (sized 256).flen.val) ∧
    (sliceRow { zeroX with nb := 1, lsb := 7, wid := 1, abs := true }) ∧
    (sliceRow { zeroX with off := 255, nb := 6, wid := 1 } ∧
      (sized 256).flen.val < (255 : BitVec 8).toNat + (6 : BitVec 3).toNat) ∧
    ¬ sliceRow { zeroX with nb := 6, wid := 49 } ∧ ¬ sliceRow { zeroX with nb := 7, wid := 1 } := by
  unfold sliceRow; decide

theorem witness_UnpackRule :
    (unpackRow { lastWindow 6 with dsel := 3 } ∧ (lastWindow 6).abs = false ∧
      (lastWindow 6).off.toNat + (lastWindow 6).nb.toNat ≤ (sized 256).flen.val) ∧
    unpackRow { zeroX with off := 200, nb := 2, abs := true } ∧
    (unpackRow { zeroX with nb := 1 } ∧ (sized 0).flen.val < (0 : BitVec 8).toNat + (1 : BitVec 3).toNat) ∧
    ¬ unpackRow { zeroX with nb := 0 } ∧ ¬ unpackRow { zeroX with nb := 7 } := by
  unfold unpackRow; decide

theorem witness_NsplitRule :
    (nsplitRow { zeroX with off := 255, nb := 1 } ∧ (255 : BitVec 8).toNat + 1 ≤ (sized 256).flen.val) ∧
    (nsplitRow { zeroX with nb := 1, t := true } ∧ 1 ≤ (sized 1).flen.val) ∧
    nsplitRow { zeroX with nb := 1, abs := true, t := true } ∧
    (sized 11).flen.val < (11 : BitVec 8).toNat + 1 ∧ (sized 0).flen.val = 0 ∧
    ¬ nsplitRow { zeroX with nb := 2 } ∧ ¬ nsplitRow { zeroX with off := 1, nb := 1, t := true } := by
  unfold nsplitRow; decide

theorem witness_TdecRule_DecodedTemperatureInTenths :
    (tdecRow (lastWindow 2) ∧ (lastWindow 2).abs = false ∧ (lastWindow 2).off.toNat + 2 ≤ (sized 256).flen.val) ∧
    tdecRow { zeroX with off := 255, nb := 2, abs := true } ∧
    (tdecRow { zeroX with off := 255, nb := 2 } ∧ (sized 256).flen.val < (255 : BitVec 8).toNat + 2) ∧
    ¬ tdecRow { zeroX with nb := 1 } := by
  unfold tdecRow; decide

theorem witness_InsertRule :
    (insertRow { lastWindow 6 with wid := 48 } ∧
      ({ sized 256 with din := 0xFFFFFFFFFFFF } : State).din.toNat < 2 ^ (48 : BitVec 6).toNat ∧
      (lastWindow 6).off.toNat + (lastWindow 6).nb.toNat ≤ (sized 256).flen.val) ∧
    (insertRow { zeroX with nb := 1, lsb := 7, wid := 1 } ∧
      2 ^ (1 : BitVec 6).toNat ≤ ({ sized 1 with din := 2 } : State).din.toNat) ∧
    (insertRow { zeroX with off := 7, nb := 2, wid := 1 } ∧
      ({ sized 8 with din := 1 } : State).din.toNat < 2 ^ (1 : BitVec 6).toNat ∧
      (sized 8).flen.val < (7 : BitVec 8).toNat + (2 : BitVec 3).toNat) ∧
    ¬ insertRow { zeroX with nb := 1, wid := 1, abs := true } := by
  unfold insertRow sliceRow; decide

theorem witness_PackRule :
    (packRow (lastWindow 6) ∧
      ({ sized 256 with din := 0xFFFFFFFFFFFF } : State).din.toNat < 2 ^ (8 * (lastWindow 6).nb.toNat) ∧
      (lastWindow 6).off.toNat + (lastWindow 6).nb.toNat ≤ (sized 256).flen.val) ∧
    (packRow { zeroX with nb := 1 } ∧
      2 ^ (8 * (1 : BitVec 3).toNat) ≤ ({ sized 1 with din := 0x100 } : State).din.toNat) ∧
    (packRow { zeroX with off := 7, nb := 2 } ∧
      ({ sized 8 with din := 0xFFFF } : State).din.toNat < 2 ^ (8 * (2 : BitVec 3).toNat) ∧
      (sized 8).flen.val < (7 : BitVec 8).toNat + (2 : BitVec 3).toNat) ∧
    ¬ packRow { zeroX with nb := 1, dsel := 1 } := by
  unfold packRow; decide

theorem witness_NpackRule :
    (npackRow { zeroX with off := 255, nb := 1 } ∧ ({ sized 256 with din := 0xFF } : State).din.toNat < 256 ∧
      (255 : BitVec 8).toNat + 1 ≤ (sized 256).flen.val) ∧
    (npackRow { zeroX with nb := 1, t := true } ∧ 1 ≤ (sized 1).flen.val) ∧
    256 ≤ ({ sized 1 with din := 0x100 } : State).din.toNat ∧
    ((sized 0).flen.val < 1 ∧ (sized 12).flen.val < (12 : BitVec 8).toNat + 1) ∧
    ¬ npackRow { zeroX with nb := 1, abs := true } := by
  unfold npackRow nsplitRow; decide

theorem witness_TencRule_TemperatureRoundTrip :
    (tencRow (lastWindow 2) ∧ ((lastWindow 2).t = true → (0x7FFF : BitVec 48).toInt = 0) ∧
      -32767 ≤ (0xFFFFFFFF8001 : BitVec 48).toInt ∧ (0xFFFFFFFF8001 : BitVec 48).toInt ≤ 32767 ∧
      -32767 ≤ (0x7FFF : BitVec 48).toInt ∧ (0x7FFF : BitVec 48).toInt ≤ 32767 ∧
      (lastWindow 2).off.toNat + 2 ≤ (sized 256).flen.val) ∧
    (tencRow { lastWindow 2 with t := true } ∧ (sized 256).din.toInt = 0) ∧
    (0xFFFFFFFF8000 : BitVec 48).toInt < -32767 ∧ 32767 < (0x8000 : BitVec 48).toInt ∧
    (5 : BitVec 48).toInt ≠ 0 ∧ (sized 6).flen.val < (5 : BitVec 8).toNat + 2 ∧
    ¬ tencRow { zeroX with nb := 2, abs := true } := by
  unfold tencRow; decide

theorem witness_IntegerRoundTrip :
    (1 ≤ (6 : BitVec 3).toNat ∧ (6 : BitVec 3).toNat ≤ 6 ∧ 1 ≤ (1 : BitVec 3).toNat) ∧
    (250 : BitVec 8).toNat + (6 : BitVec 3).toNat ≤ (sized 256).flen.val ∧
    ({ sized 256 with din := 0xFFFFFFFFFFFF } : State).din.toNat < 2 ^ (8 * (6 : BitVec 3).toNat) ∧
    divtab 3 ≠ none := by decide

theorem witness_NibbleRoundTrip :
    (true = true → (0 : BitVec 8) = 0) ∧ (if true = true then 1 else (0 : BitVec 8).toNat + 1) ≤ (sized 1).flen.val ∧
    (if false = true then 1 else (255 : BitVec 8).toNat + 1) ≤ (sized 256).flen.val := by decide

theorem witness_BitFieldRoundTrip :
    insertRow { zeroX with nb := 1, lsb := 4, wid := 4 } ∧
    (0 : BitVec 8).toNat + (1 : BitVec 3).toNat ≤ (sized 1).flen.val ∧
    ({ sized 1 with din := 0xF } : State).din.toNat < 2 ^ (4 : BitVec 6).toNat ∧
    insertRow { zeroX with nb := 1, lsb := 0, wid := 4 } ∧
    (0 : BitVec 6).toNat + (4 : BitVec 6).toNat ≤ (4 : BitVec 6).toNat := by
  unfold insertRow sliceRow; decide

theorem witness_IllFormedWordsWriteOnlyOpstat :
    Instr.wellFormed (.clr ⟨0, 1⟩) = false ∧ Instr.wellFormed (.nsplit { zeroX with off := 3, nb := 1, t := true }) = false := by
  decide

/-- A next state of each kind of outcome: for the statements whose only hypothesis is that exec answers it. -/
theorem witness_exec_answers :
    (∃ t, exec (.dispatch zeroX) lighting = .next t ∧ t.opstat = .ok) ∧
    (∃ t, exec (.dispatch zeroX) (sized 1) = .next t ∧ t.opstat = .framing) ∧
    (∃ t, exec (.dispatch zeroX) (framed [0x01, 0x10]) = .next t ∧ t.opstat = .truncated) ∧
    (∃ t, exec (.reservedE 0) rain = .next t ∧ t.opstat = .illegalOp) ∧
    (∃ t, exec (.clr ⟨0, 1⟩) rain = .next t ∧ t.opstat = .badOperand) ∧
    (∃ t, exec (.tdec { zeroX with nb := 2, abs := true }) rain = .next t ∧ t.opstat = .absent) ∧
    (∃ t, exec (.nsplit { zeroX with nb := 1, t := true }) State.reset = .next t ∧ t.opstat = .truncated) ∧
    (∃ t, exec (.final zeroX) State.reset = .next t ∧ t.opstat = .truncated) ∧
    (∃ t, exec (.push zeroD) (sized 256) = .next t ∧ t.opstat = .overflow) :=
  ⟨⟨_, rfl, rfl⟩, ⟨_, rfl, rfl⟩, ⟨_, rfl, rfl⟩, ⟨_, rfl, rfl⟩, ⟨_, rfl, rfl⟩, ⟨_, rfl, rfl⟩, ⟨_, rfl, rfl⟩,
    ⟨_, rfl, rfl⟩, ⟨_, rfl, rfl⟩⟩

/-- The clauses about RESET of the statements on FVALID, HDRVLD and FLEN. -/
theorem witness_reset_clauses : ({ rain with port := [.reset, .cmd 0] } : State).port = .reset :: [.cmd 0] := by decide

theorem witness_OverflowIsStickyUntilClr :
    (sized 256).flen.val = 256 ∧ ({ sized 256 with ovf := true } : State).ovf = true ∧
    ({ rain with port := [.reset] } : State).port = .reset :: [] := by decide

theorem witness_WriteMatrixDashes :
    writesFb (.slice zeroX) = false ∧ isClr (.slice zeroX) = false ∧ isDispatch (.slice zeroX) = false ∧
    isPush (.slice zeroX) = false ∧ leavesVerdict (.ldin zeroD) = true ∧
    (∀ f, Instr.push zeroD ≠ .slice f) ∧ (∀ f, Instr.push zeroD ≠ .unpack f) ∧ (∀ f, Instr.push zeroD ≠ .nsplit f) ∧
    (∀ f, Instr.push zeroD ≠ .tdec f) ∧ (∀ f, Instr.push zeroD ≠ .ldin f) := by
  refine ⟨rfl, rfl, rfl, rfl, rfl, ?_, ?_, ?_, ?_, ?_⟩ <;> intro f h <;> cases h

theorem witness_ClearedValidBitClearsItsGroup :
    ∃ t, exec (.clr zeroD) { rain with hdrvld := true, accVld := true, nibVld := true, tVld := true } = .next t ∧
      t.hdrvld = false ∧ t.accVld = false ∧ t.nibVld = false ∧ t.tVld = false :=
  ⟨_, rfl, rfl, rfl, rfl, rfl⟩

theorem witness_RepeatedCommandsAreIdempotent :
    ∃ t u, exec (.unpack { zeroX with nb := 6 }) rain = .next t ∧ exec (.unpack { zeroX with nb := 6 }) t = .next u ∧
      isPush (.unpack zeroX) = false ∧ readsField (.unpack zeroX) = true :=
  ⟨_, _, rfl, rfl, rfl, rfl⟩

/-- Two states that differ in the byte just outside the frame. -/
theorem witness_BytesOutsideTheFrameNeverMatter :
    sameObservable { framed [7] with fb := [(0, 7)] } { framed [7] with fb := [(0, 7), (1, 9)] } ∧
    (∃ t, exec (.push zeroD) { framed [7] with fb := [(0, 7)] } = .next t) ∧
    (∃ t, exec (.push zeroD) { framed [7] with fb := [(0, 7), (1, 9)] } = .next t) :=
  ⟨⟨rfl, rfl, by decide⟩, ⟨_, rfl⟩, ⟨_, rfl⟩⟩

/-- A dispatched Rain frame of four bytes with a NOP to run. -/
def dispatched : State :=
  { framed [0x03, 0x55, 0x02, 0x07] with
    typ := 0x55, subtype := 0x02, seq := 0x07, cls := .sensor, subknown := true, hdrvld := true, fvalid := true,
    port := [.cmd 0] }

theorem witness_EveryStepKeepsTheInvariant : State.Inv dispatched ∧ ∃ t, step dispatched = .next t := by
  refine ⟨⟨by decide, by decide, by decide, by decide, by decide, by decide, by decide, ?_, by decide, by decide, by decide⟩,
    _, rfl⟩
  intro _
  exact ⟨_, rfl, rfl, rfl⟩

theorem witness_LoadedBufferIsTheFrame :
    ([] : List Byte).length ≤ 256 ∧ (List.replicate 256 (0 : Byte)).length ≤ 256 :=
  ⟨by decide, le_of_eq List.length_replicate⟩

theorem witness_ConfigurationMeetsItsConstraints :
    (∃ e, registry 0x55 = some e) ∧ ∃ v, divtab 3 = some v := ⟨⟨_, rfl⟩, ⟨_, rfl⟩⟩

theorem witness_ScaledValueIsExact :
    ∃ v, ({ State.reset with acc := 223666, accDsel := 3, accVld := true } : State).accVld = true ∧
      divtab ({ State.reset with acc := 223666, accDsel := 3, accVld := true } : State).accDsel = some v :=
  ⟨_, rfl, rfl⟩

/-- Each field at the two ends of its range. -/
theorem witness_AssemblerRefusesWhatDoesNotFit_fits :
    (lineFits .nop ∧ lineFits .clr ∧ lineFits .dispatch ∧ lineFits .final ∧ lineFits (.nsplitTail true) ∧
      lineFits .npackTail) ∧
    (lineFits (.push 255) ∧ lineFits (.ldin (-140737488355328)) ∧ lineFits (.ldin 281474976710655)) ∧
    (lineFits (.slice true 255 7 63 63) ∧ lineFits (.insert 255 7 63 63) ∧ lineFits (.unpack true 255 7 15)) ∧
    (lineFits (.pack 255 7) ∧ lineFits (.nsplit true 255) ∧ lineFits (.tdec true 255) ∧ lineFits (.npack 0) ∧
      lineFits (.tenc true 255)) := by
  simp only [lineFits, fits]; decide

/-- Each field one past each end of its range. -/
theorem witness_AssemblerRefusesWhatDoesNotFit_refuses :
    (¬ lineFits (.push 256) ∧ ¬ lineFits (.push (-1)) ∧ ¬ lineFits (.ldin (-140737488355329)) ∧
      ¬ lineFits (.ldin 281474976710656)) ∧
    (¬ lineFits (.slice true 256 0 0 0) ∧ ¬ lineFits (.slice false 0 8 0 0) ∧ ¬ lineFits (.insert 0 0 64 0) ∧
      ¬ lineFits (.insert 0 0 0 64)) ∧
    (¬ lineFits (.unpack false 0 0 16) ∧ ¬ lineFits (.pack 0 (-1)) ∧ ¬ lineFits (.nsplit false 256) ∧
      ¬ lineFits (.tdec false (-1)) ∧ ¬ lineFits (.npack 256) ∧ ¬ lineFits (.tenc true 256)) := by
  norm_num [lineFits, fits]

end Sys2Proof.Tests
end

section
/-! SUPPORT. The step taken on a CMD, and the configuration tables entry by entry: the lemmas and the proofs for the
statements of 00_scope.md. -/

open Sys2Proof Sys2Proof.Machine

namespace Sys2Proof.Machine

/-! ### The step on a CMD -/

/-- The arm of `step` for a CMD (10_state.md R45 (a)). -/
theorem step_of_port_cmd {s : State} {w : CommandWord} {rest : List PortOp} (h : s.port = .cmd w :: rest) :
    step s = completeCommand (exec (decode w) (takePort rest s)) := by
  simp only [step, h]

@[simp] theorem completeCommand_next (t : State) :
    completeCommand (.next t) = .next { t with draw := t.draw + 1 } := rfl

/-! ### `REGISTRY` -/

/-- The codes whose entries 00_scope.md R6 fixes. -/
def fixedCodes : List Byte := [0x10, 0x55, 0x20]

theorem not_mem_fixedCodes_iff (c : Byte) : c ∉ fixedCodes ↔ ¬ c = 0x10 ∧ ¬ c = 0x55 ∧ ¬ c = 0x20 := by
  simp only [fixedCodes, List.mem_cons, List.not_mem_nil, or_false, not_or]

/-- The entry of the Status code, where it is none of the fixed codes. -/
theorem registry_of_statusCode {c : Byte} (hfixed : c ∉ fixedCodes) (h : Config.statusCode = some c) :
    registry c = some { status := true, sensor := false } := by
  obtain ⟨h10, h55, h20⟩ := (not_mem_fixedCodes_iff c).mp hfixed
  rw [registry, if_neg h10, if_neg h55, if_neg h20, if_pos h]

/-- An entry is that of the Status code, which has no `sensor`, or it has no `status`. -/
theorem registry_eq_some_cases {c : Byte} {e : RegistryEntry} (h : registry c = some e) :
    (c ∉ fixedCodes ∧ Config.statusCode = some c ∧ e = { status := true, sensor := false }) ∨
    e.status = false := by
  simp only [registry] at h
  split_ifs at h with h10 h55 h20 hstatus
  case neg =>
    obtain ⟨sensor, -, rfl⟩ := Option.map_eq_some_iff.mp h
    exact .inr rfl
  all_goals cases h
  · exact .inr rfl
  · exact .inr rfl
  · exact .inr rfl
  · exact .inl ⟨(not_mem_fixedCodes_iff c).mpr ⟨h10, h55, h20⟩, hstatus, rfl⟩

/-- The code of the Status family: none where `STATUS_CODE` names a fixed code, which never has `status` (log
entry 19). -/
def statusFamilyCode : Option Byte := Config.statusCode.filter fun c => decide (c ∉ fixedCodes)

theorem statusFamilyCode_eq_some_iff (c : Byte) :
    statusFamilyCode = some c ↔ Config.statusCode = some c ∧ c ∉ fixedCodes := by
  simp only [statusFamilyCode, Option.filter_eq_some_iff, decide_eq_true_eq]

theorem registry_status_iff (c : Byte) :
    (∃ e, registry c = some e ∧ e.status = true) ↔ statusFamilyCode = some c := by
  rw [statusFamilyCode_eq_some_iff]
  constructor
  · rintro ⟨e, hentry, hstatus⟩
    obtain ⟨hfixed, hcode, -⟩ | hno := registry_eq_some_cases hentry
    · exact ⟨hcode, hfixed⟩
    · exact absurd hstatus (by simp [hno])
  · rintro ⟨hcode, hfixed⟩
    exact ⟨_, registry_of_statusCode hfixed hcode, rfl⟩

theorem registry_not_both_flags {c : Byte} {e : RegistryEntry} (h : registry c = some e) :
    ¬ (e.status = true ∧ e.sensor = true) := by
  obtain ⟨-, -, rfl⟩ | hno := registry_eq_some_cases h
  · simp
  · simp [hno]

/-! ### `DIVTAB` -/

theorem divisorValue_pos (d : Divisor) : 0 < divisorValue d :=
  div_pos (Nat.cast_pos.mpr d.num_pos) (Nat.cast_pos.mpr d.den_pos)

theorem divtab_zero_value : (divtab 0).map divisorValue = some 1 := by simp [divtab, divisorValue]
theorem divtab_one_value : (divtab 1).map divisorValue = some 10 := by simp [divtab, divisorValue]
theorem divtab_two_value : (divtab 2).map divisorValue = some 100 := by simp [divtab, divisorValue]

/-- The divisor 223.666 as the exact decimal (00_scope.md R7). -/
theorem divtab_three_value : (divtab 3).map divisorValue = some (223666 / 1000) := by simp [divtab, divisorValue]

end Sys2Proof.Machine

namespace Sys2Proof.Claims

/-- Settles O7: the arm of `step` for a CMD, rewritten with what `exec` answers. -/
theorem stepRunsTheDecodedCommand : Obligations.StepRunsTheDecodedCommand := by
  intro s t w rest i hport hdecode hexec
  have hrun : exec (decode w) (takePort rest s) = .next t := hdecode ▸ hexec
  rw [step_of_port_cmd hport, hrun, completeCommand_next]

/-- Settles O54: the fixed entries by evaluation; the constraints on all entries from the cases of `registry`, with
`statusFamilyCode` as the Status family, and from the positive parts that each divisor carries. -/
theorem configurationMeetsItsConstraints : Obligations.ConfigurationMeetsItsConstraints :=
  ⟨rfl, rfl, ⟨_, rfl⟩, rfl, divtab_zero_value, divtab_one_value, divtab_two_value, divtab_three_value,
    ⟨statusFamilyCode, registry_status_iff⟩, fun _ _ => registry_not_both_flags,
    fun _ v _ => divisorValue_pos v⟩

end Sys2Proof.Claims
end

section
/-! SUPPORT. Noninterference of the bytes outside the frame (10_state.md R42, R43): two states that show alike
(`sameObservable`) still do after every named update, after each shared shape of a command, and so after every
command. -/

open Sys2Proof Sys2Proof.Machine

namespace Sys2Proof.Machine

/-! ### Updates of registers -/

/-- The registers of `s` over the FB, the port and the draw of `u`. -/
def State.registersOver (s u : State) : State := { s with fb := u.fb, port := u.port, draw := u.draw }

theorem sameRegisters_iff_registersOver (s t : State) : sameRegisters s t ↔ t.registersOver s = s := Iff.rfl

/-- An update of registers alone, which neither reads nor writes FB, the port or the draw and never lengthens the
frame. -/
structure RegisterUpdate (F : State → State) : Prop where
  registersOver : ∀ s u, F (s.registersOver u) = (F s).registersOver u
  flen_le : ∀ s, (F s).flen.val ≤ s.flen.val

theorem RegisterUpdate.comp {F G : State → State} (hF : RegisterUpdate F) (hG : RegisterUpdate G) :
    RegisterUpdate fun s => F (G s) :=
  ⟨fun s u => by rw [hG.registersOver, hF.registersOver], fun s => (hF.flen_le (G s)).trans (hG.flen_le s)⟩

theorem RegisterUpdate.fb {F : State → State} (hF : RegisterUpdate F) (s : State) : (F s).fb = s.fb :=
  (congrArg State.fb (hF.registersOver s s) :)

theorem RegisterUpdate.draw {F : State → State} (hF : RegisterUpdate F) (s : State) : (F s).draw = s.draw :=
  (congrArg State.draw (hF.registersOver s s) :)

theorem RegisterUpdate.fbByte {F : State → State} (hF : RegisterUpdate F) (s : State) (a : Nat) :
    (F s).fbByte a = s.fbByte a := by
  simp only [State.fbByte, hF.fb, hF.draw]

theorem RegisterUpdate.registersOver_map {F : State → State} (hF : RegisterUpdate F) (s t : State) :
    (F t).registersOver (F s) = F (t.registersOver s) := by
  have hport : (F s).port = s.port := (congrArg State.port (hF.registersOver s s) :)
  rw [hF.registersOver, State.registersOver, State.registersOver, hF.fb, hF.draw, hport]

theorem registerUpdate_id : RegisterUpdate id := ⟨fun _ _ => rfl, fun _ => le_rfl⟩
theorem registerUpdate_raise (e : Status) : RegisterUpdate (raise e) := ⟨fun _ _ => rfl, fun _ => le_rfl⟩
theorem registerUpdate_succeed : RegisterUpdate succeed := ⟨fun _ _ => rfl, fun _ => le_rfl⟩
theorem registerUpdate_voidVerdict : RegisterUpdate voidVerdict := ⟨fun _ _ => rfl, fun _ => le_rfl⟩
theorem registerUpdate_setOverflow : RegisterUpdate setOverflow := ⟨fun _ _ => rfl, fun _ => le_rfl⟩
theorem registerUpdate_clearAcc : RegisterUpdate clearAcc := ⟨fun _ _ => rfl, fun _ => le_rfl⟩
theorem registerUpdate_clearNib : RegisterUpdate clearNib := ⟨fun _ _ => rfl, fun _ => le_rfl⟩
theorem registerUpdate_clearTemp : RegisterUpdate clearTemp := ⟨fun _ _ => rfl, fun _ => le_rfl⟩
theorem registerUpdate_clearRegisters : RegisterUpdate clearRegisters := ⟨fun _ _ => rfl, fun _ => Nat.zero_le _⟩
theorem registerUpdate_dispatchFail (c : Status) : RegisterUpdate (dispatchFail c) :=
  ⟨fun _ _ => rfl, fun _ => le_rfl⟩
theorem registerUpdate_loadDin (v : BitVec 48) : RegisterUpdate (loadDin v) := ⟨fun _ _ => rfl, fun _ => le_rfl⟩
theorem registerUpdate_latchAcc (v : BitVec 48) (d : BitVec 4) : RegisterUpdate (latchAcc v d) :=
  ⟨fun _ _ => rfl, fun _ => le_rfl⟩
theorem registerUpdate_latchNib (b : Byte) : RegisterUpdate (latchNib b) := ⟨fun _ _ => rfl, fun _ => le_rfl⟩
theorem registerUpdate_latchTemperature (hi lo : Byte) : RegisterUpdate (latchTemperature hi lo) :=
  ⟨fun _ _ => rfl, fun _ => le_rfl⟩
theorem registerUpdate_latchHeader (a b c : Byte) (k : FrameClass) (n : Bool) :
    RegisterUpdate (latchHeader a b c k n) :=
  ⟨fun _ _ => rfl, fun _ => le_rfl⟩

/-- The byte a PUSH appends stands at the old end of the frame (40_frame.md R103). -/
theorem appendByte_fbByte (b : Byte) (s : State) (a : Nat) :
    (appendByte b s).fbByte a = if a = s.flen.val then b else s.fbByte a :=
  setByte_fbByte s s.flen.val b a

/-! ### Where the checks put a read -/

theorem nibbleAddress_lt {f : FieldsX} {s : State} (inside : nibbleInside f s = true) :
    nibbleAddress f s < s.flen.val := by
  simp only [nibbleInside, nibbleAddress] at *
  split_ifs at * <;> simp only [decide_eq_true_eq] at inside <;> omega

/-- A frame that passes the framing check (44_dispatch.md R182). -/
theorem framingBad_eq_false_iff (s : State) :
    framingBad s = false ↔ s.ovf = false ∧ 2 ≤ s.flen.val ∧ (s.fbByte 0).toNat + 1 = s.flen.val := by
  cases hovf : s.ovf
  · simp only [framingBad, hovf, Bool.false_or, decide_eq_true_eq, ne_eq]
    split_ifs <;> simp <;> omega
  · simp [framingBad, hovf]

theorem one_lt_flen_of_framed {s : State} (h : ¬ framingBad s = true) : 1 < s.flen.val :=
  have ⟨_, hlen, _⟩ := (framingBad_eq_false_iff s).mp (Bool.eq_false_of_not_eq_true h)
  hlen

/-! ### States that show alike -/

/-- An update of registers keeps two states alike. -/
theorem sameObservable.map {F : State → State} {s t : State} (h : sameObservable s t) (hF : RegisterUpdate F) :
    sameObservable (F s) (F t) := by
  have hregs : sameRegisters (F s) (F t) :=
    (sameRegisters_iff_registersOver _ _).mpr ((hF.registersOver_map s t).trans (congrArg F h.1))
  refine ⟨hregs, (congrArg State.flen hregs :).symm, fun a ha => ?_⟩
  rw [hF.fbByte, hF.fbByte]
  exact h.2.2 a (Nat.lt_of_lt_of_le ha (hF.flen_le s))

section
variable {s t : State} (h : sameObservable s t)
include h

theorem sameObservable.flen_eq : t.flen = s.flen := h.2.1.symm
theorem sameObservable.ovf_eq : t.ovf = s.ovf := (congrArg State.ovf h.1 :)
theorem sameObservable.din_eq : t.din = s.din := (congrArg State.din h.1 :)
theorem sameObservable.dinValue_eq : dinValue t = dinValue s := congrArg BitVec.toNat h.din_eq
theorem sameObservable.dinSigned_eq : dinSigned t = dinSigned s := congrArg BitVec.toInt h.din_eq
theorem sameObservable.fbByte_eq {a : Nat} (ha : a < s.flen.val) : t.fbByte a = s.fbByte a := (h.2.2 a ha).symm

/-- A store of the same byte at the same place keeps two states alike, wherever the place is. -/
theorem sameObservable.setByte (a : Nat) (b : Byte) : sameObservable (s.setByte a b) (t.setByte a b) := by
  refine ⟨congrArg (fun u : State => u.setByte a b) h.1, h.2.1, fun c hc => ?_⟩
  rw [setByte_fbByte, setByte_fbByte, h.fbByte_eq hc]

theorem sameObservable.memWrite (o n v : Nat) :
    sameObservable (Machine.memWrite s o n v) (Machine.memWrite t o n v) := by
  refine ⟨congrArg (fun u : State => Machine.memWrite u o n v) h.1, h.2.1, fun c hc => ?_⟩
  rw [memWrite_fbByte, memWrite_fbByte, h.fbByte_eq hc]

/-- The byte that PUSH brings into the frame is the one it writes. -/
theorem sameObservable.appendByte (b : Byte) (room : s.flen.val < 256) :
    sameObservable (Machine.appendByte b s) (Machine.appendByte b t) := by
  have hregs : sameRegisters (Machine.appendByte b s) (Machine.appendByte b t) := by
    rw [Machine.appendByte, Machine.appendByte, h.flen_eq]
    exact congrArg (fun u : State => { u with flen := nextLength s.flen }) (h.setByte s.flen.val b).1
  refine ⟨hregs, congrArg nextLength h.2.1, fun c hc => ?_⟩
  rw [appendByte_flen, nextLength_val room] at hc
  rw [appendByte_fbByte, appendByte_fbByte, h.flen_eq]
  split
  · rfl
  · exact h.2.2 c (by omega)

/-! ### What a command reads of the frame -/

theorem sameObservable.insideFrame_eq (o n : Nat) : insideFrame t o n = insideFrame s o n := by
  simp only [insideFrame, h.flen_eq]

theorem sameObservable.memRead_eq {o n : Nat} (inside : insideFrame s o n = true) :
    memRead t o n = memRead s o n :=
  beValue_congr fun _ _ ha => h.fbByte_eq (Nat.lt_of_lt_of_le ha ((insideFrame_iff s o n).mp inside))

theorem sameObservable.nibbleAddress_eq (f : FieldsX) : nibbleAddress f t = nibbleAddress f s := by
  simp only [nibbleAddress, h.flen_eq]

theorem sameObservable.nibbleInside_eq (f : FieldsX) : nibbleInside f t = nibbleInside f s := by
  simp only [nibbleInside, h.flen_eq]

theorem sameObservable.framingBad_eq : framingBad t = framingBad s := by
  simp only [framingBad, h.ovf_eq, h.flen_eq]
  split
  · rfl
  · rw [h.fbByte_eq (by simp_all; omega)]

/-! ### The shared shapes of the commands -/

theorem sameObservable.controlCommand {effect : State → State} (rowOk : Bool) (heffect : RegisterUpdate effect) :
    sameObservable (Machine.controlCommand rowOk effect s) (Machine.controlCommand rowOk effect t) := by
  cases rowOk
  case false => exact h.map (registerUpdate_raise .badOperand)
  case true => exact h.map (registerUpdate_succeed.comp heffect)

theorem sameObservable.readCommand {clear latch : State → State} {inside inside' : Bool} (rowOk absent : Bool)
    (hinside : inside' = inside) (hclear : RegisterUpdate clear)
    (hlatch : inside = true → sameObservable (latch s) (latch t)) :
    sameObservable (Machine.readCommand rowOk absent inside clear latch s)
      (Machine.readCommand rowOk absent inside' clear latch t) := by
  subst hinside
  simp only [Machine.readCommand]
  split_ifs with _ _ houtside
  · exact h.map (registerUpdate_raise .badOperand)
  · exact h.map ((registerUpdate_raise .absent).comp hclear)
  · exact h.map ((registerUpdate_raise .truncated).comp (registerUpdate_voidVerdict.comp hclear))
  · exact (hlatch (by simpa using houtside)).map registerUpdate_succeed

theorem sameObservable.writeCommand {store : State → State} {valueOk valueOk' inside inside' : Bool} (rowOk : Bool)
    (hvalue : valueOk' = valueOk) (hinside : inside' = inside)
    (hstore : inside = true → sameObservable (store s) (store t)) :
    sameObservable (Machine.writeCommand rowOk valueOk inside store s)
      (Machine.writeCommand rowOk valueOk' inside' store t) := by
  subst hvalue hinside
  simp only [Machine.writeCommand]
  split_ifs with _ _ houtside
  · exact h.map (registerUpdate_raise .badOperand)
  · exact h.map (registerUpdate_raise .badOperand)
  · exact h.map (registerUpdate_raise .truncated)
  · exact (hstore (by simpa using houtside)).map (registerUpdate_succeed.comp registerUpdate_voidVerdict)

/-! ### The results of the commands -/

theorem sameObservable.latchSlice {f : FieldsX} (inside : windowInside f s = true) :
    sameObservable (Machine.latchSlice f s) (Machine.latchSlice f t) := by
  rw [Machine.latchSlice, Machine.latchSlice, h.memRead_eq inside]
  exact h.map (registerUpdate_latchAcc _ _)

theorem sameObservable.latchInteger {f : FieldsX} (inside : windowInside f s = true) :
    sameObservable (Machine.latchInteger f s) (Machine.latchInteger f t) := by
  rw [Machine.latchInteger, Machine.latchInteger, h.memRead_eq inside]
  exact h.map (registerUpdate_latchAcc _ _)

theorem sameObservable.latchNib {f : FieldsX} (inside : nibbleInside f s = true) :
    sameObservable (Machine.latchNib (s.fbByte (nibbleAddress f s)) s)
      (Machine.latchNib (t.fbByte (nibbleAddress f t)) t) := by
  rw [h.nibbleAddress_eq, h.fbByte_eq (nibbleAddress_lt inside)]
  exact h.map (registerUpdate_latchNib _)

theorem sameObservable.latchTemperature {o : Nat} (inside : Machine.insideFrame s o 2 = true) :
    sameObservable (Machine.latchTemperature (s.fbByte o) (s.fbByte (o + 1)) s)
      (Machine.latchTemperature (t.fbByte o) (t.fbByte (o + 1)) t) := by
  rw [insideFrame_iff] at inside
  rw [h.fbByte_eq (a := o) (by omega), h.fbByte_eq (a := o + 1) (by omega)]
  exact h.map (registerUpdate_latchTemperature _ _)

theorem sameObservable.captureHeader (e : RegistryEntry) (header : 4 ≤ s.flen.val) :
    sameObservable (Machine.captureHeader e s) (Machine.captureHeader e t) := by
  rw [Machine.captureHeader, Machine.captureHeader, h.fbByte_eq (a := 1) (by omega),
    h.fbByte_eq (a := 2) (by omega), h.fbByte_eq (a := 3) (by omega)]
  exact h.map (registerUpdate_latchHeader _ _ _ _ _)

theorem sameObservable.storeField {f : FieldsX} (inside : windowInside f s = true) :
    sameObservable (Machine.storeField f s) (Machine.storeField f t) := by
  rw [Machine.storeField, Machine.storeField, h.memRead_eq inside, h.dinValue_eq]
  exact h.memWrite _ _ _

theorem sameObservable.storeInteger (f : FieldsX) :
    sameObservable (Machine.storeInteger f s) (Machine.storeInteger f t) := by
  rw [Machine.storeInteger, Machine.storeInteger, h.dinValue_eq]
  exact h.memWrite _ _ _

theorem sameObservable.storeTemperature (f : FieldsX) :
    sameObservable (Machine.storeTemperature f s) (Machine.storeTemperature f t) := by
  rw [Machine.storeTemperature, Machine.storeTemperature, h.dinSigned_eq]
  exact (h.setByte _ _).setByte _ _

theorem sameObservable.storeNibbles (f : FieldsX) :
    sameObservable (s.setByte (nibbleAddress f s) (packNibbles s.din))
      (t.setByte (nibbleAddress f t) (packNibbles t.din)) := by
  rw [h.nibbleAddress_eq, h.din_eq]
  exact h.setByte _ _

theorem sameObservable.storeLength :
    sameObservable (s.setByte 0 (lengthByte s)) (t.setByte 0 (lengthByte t)) := by
  rw [lengthByte, lengthByte, h.flen_eq]
  exact h.setByte _ _

/-! ### The two commands without a shared shape -/

theorem sameObservable.execPush {f : FieldsD} {s' t' : State} (hs : Machine.execPush f s = .next s')
    (ht : Machine.execPush f t = .next t') : sameObservable s' t' := by
  have hlen := s.flen.isLt
  simp only [Machine.execPush, h.flen_eq, Host.Outcome.next.injEq] at hs ht
  subst hs ht
  split_ifs with _ hfull
  · exact h.map (registerUpdate_raise .badOperand)
  · exact h.map ((registerUpdate_raise .overflow).comp (registerUpdate_voidVerdict.comp registerUpdate_setOverflow))
  · exact (h.appendByte _ (by omega)).map (registerUpdate_succeed.comp registerUpdate_voidVerdict)

/-- DISPATCH reads FB[0] and FB[1] only with FLEN ≥ 2, and the rest of the header only with FLEN ≥ 4
(44_dispatch.md R181, R182). -/
theorem sameObservable.execDispatch {f : FieldsX} {s' t' : State} (hs : Machine.execDispatch f s = .next s')
    (ht : Machine.execDispatch f t = .next t') : sameObservable s' t' := by
  simp only [Machine.execDispatch, h.flen_eq, h.framingBad_eq, Host.Outcome.next.injEq] at hs ht
  subst hs ht
  split_ifs with _ hframing hshort
  · exact h.map (registerUpdate_raise .badOperand)
  · exact h.map (registerUpdate_dispatchFail .framing)
  all_goals rw [h.fbByte_eq (one_lt_flen_of_framed hframing)]
  · cases registry (s.fbByte 1) with
    | none => exact h.map (registerUpdate_dispatchFail .unknownType)
    | some e => exact h.map (registerUpdate_dispatchFail .truncated)
  · cases registry (s.fbByte 1) with
    | none => exact h.map (registerUpdate_dispatchFail .unknownType)
    | some e => exact (h.captureHeader e (by omega)).map registerUpdate_succeed

end

end Sys2Proof.Machine

namespace Sys2Proof.Claims

/-- Settles O49: command by command, the shape of the command with its result. -/
theorem bytesOutsideTheFrameNeverMatter : Obligations.BytesOutsideTheFrameNeverMatter := by
  intro i s t s' t' h hs ht
  cases i with
  | push f => exact h.execPush hs ht
  | dispatch f => exact h.execDispatch hs ht
  | nop f => cases hs; cases ht; exact h.controlCommand _ registerUpdate_id
  | clr f => cases hs; cases ht; exact h.controlCommand _ registerUpdate_clearRegisters
  | ldin f => cases hs; cases ht; exact h.controlCommand _ (registerUpdate_loadDin f.imm)
  | slice f =>
    cases hs; cases ht
    exact h.readCommand _ _ (h.insideFrame_eq _ _) registerUpdate_clearAcc h.latchSlice
  | unpack f =>
    cases hs; cases ht
    exact h.readCommand _ _ (h.insideFrame_eq _ _) registerUpdate_clearAcc h.latchInteger
  | nsplit f =>
    cases hs; cases ht
    exact h.readCommand _ _ (h.nibbleInside_eq f) registerUpdate_clearNib h.latchNib
  | tdec f =>
    cases hs; cases ht
    exact h.readCommand _ _ (h.insideFrame_eq _ _) registerUpdate_clearTemp h.latchTemperature
  | insert f =>
    cases hs; cases ht
    exact h.writeCommand _ (by rw [h.dinValue_eq]) (h.insideFrame_eq _ _) h.storeField
  | pack f =>
    cases hs; cases ht
    exact h.writeCommand _ (by rw [h.dinValue_eq]) (h.insideFrame_eq _ _) fun _ => h.storeInteger f
  | npack f =>
    cases hs; cases ht
    exact h.writeCommand _ (by rw [h.dinValue_eq]) (h.nibbleInside_eq f) fun _ => h.storeNibbles f
  | tenc f =>
    cases hs; cases ht
    exact h.writeCommand _ (by rw [h.dinSigned_eq]) (h.insideFrame_eq _ _) fun _ => h.storeTemperature f
  | final f =>
    cases hs; cases ht
    exact h.writeCommand _ rfl (h.insideFrame_eq _ _) fun _ => h.storeLength
  | reservedE r => cases hs; cases ht; exact h.map (registerUpdate_raise .illegalOp)
  | reservedF r => cases hs; cases ht; exact h.map (registerUpdate_raise .illegalOp)

end Sys2Proof.Claims
end

section
/-! SUPPORT. The invariant of the PFD: every named update of the state keeps it, under what the checks of a command
establish, and so does every way a command can end and every interaction of the host. -/

open Sys2Proof Sys2Proof.Machine

namespace Sys2Proof.Machine

/-! ### The step on each interaction -/

theorem step_of_port_nil {s : State} (h : s.port = []) : step s = .next s := by simp only [step, h]

theorem step_of_port_rdreg {s : State} {a : BitVec 5} {rest : List PortOp} (h : s.port = .rdreg a :: rest) :
    step s = .next (takePort rest s) := by
  simp only [step, h]

theorem step_of_port_rdfb {s : State} {i : BitVec 8} {rest : List PortOp} (h : s.port = .rdfb i :: rest) :
    step s = .next (takePort rest s) := by
  simp only [step, h]

theorem step_of_port_reset {s : State} {rest : List PortOp} (h : s.port = .reset :: rest) :
    step s = .next (freshDraw (resetPort (takePort rest s))) := by
  simp only [step, h]

theorem completeCommand_eq_next {r : Host.Outcome State Fault Refusal} {t : State}
    (h : completeCommand r = .next t) : ∃ u, r = .next u ∧ t = freshDraw u := by
  cases r with
  | next u => cases h; exact ⟨u, rfl, rfl⟩
  | fault f => cases h
  | refused f => cases h

/-- Every way a step can go: held, a command run, a read taken, or RESET (10_state.md R45). -/
theorem step_cases {s t : State} (h : step s = .next t) :
    t = s ∨
    (∃ w rest u, exec (decode w) (takePort rest s) = .next u ∧ t = freshDraw u) ∨
    (∃ rest, t = takePort rest s) ∨
    (∃ rest, t = freshDraw (resetPort (takePort rest s))) := by
  cases hport : s.port with
  | nil => rw [step_of_port_nil hport] at h; cases h; exact .inl rfl
  | cons op rest =>
    cases op with
    | cmd w =>
      rw [step_of_port_cmd hport] at h
      obtain ⟨u, hexec, rfl⟩ := completeCommand_eq_next h
      exact .inr (.inl ⟨w, rest, u, hexec, rfl⟩)
    | rdreg a => rw [step_of_port_rdreg hport] at h; cases h; exact .inr (.inr (.inl ⟨rest, rfl⟩))
    | rdfb i => rw [step_of_port_rdfb hport] at h; cases h; exact .inr (.inr (.inl ⟨rest, rfl⟩))
    | reset => rw [step_of_port_reset hport] at h; cases h; exact .inr (.inr (.inr ⟨rest, rfl⟩))

/-! ### Facts the invariant turns on -/

/-- A byte that a command wrote is the same whatever the draw. -/
theorem freshDraw_fbByte {s : State} {a : Nat} (h : (Memory.lookup s.fb a).isSome = true) :
    (freshDraw s).fbByte a = s.fbByte a := by
  obtain ⟨b, hb⟩ := Option.isSome_iff_exists.mp h
  simp only [State.fbByte, freshDraw_fb, hb, Option.getD_some]

/-- A write leaves every byte that was written a written one. -/
theorem Memory.isSome_lookup_write {m : Memory} {a : Nat} (b : Byte) {c : Nat}
    (h : c = a ∨ (Memory.lookup m c).isSome = true) : (Memory.lookup (Memory.write m a b) c).isSome = true := by
  rw [Memory.lookup_write]
  split
  · rfl
  · exact h.resolve_left ‹_›

theorem Memory.isSome_lookup_writeBytes {m : Memory} {o : Nat} (bs : List Byte) {c : Nat}
    (h : (Memory.lookup m c).isSome = true) : (Memory.lookup (Memory.writeBytes m o bs) c).isSome = true := by
  induction bs generalizing m o with
  | nil => exact h
  | cons b bs ih => exact ih (Memory.isSome_lookup_write b (.inr h))

/-- The 16-bit pattern of TEMP stands for the magnitude with its sign: no magnitude of 15 bits overflows it
(41_temperature.md R121). -/
theorem tempValue_toInt (sign : Bool) (m : BitVec 15) :
    (tempValue sign m).toInt = if sign then -(m.toNat : Int) else (m.toNat : Int) := by
  have hm := m.isLt
  have hwide : (m.setWidth 16).toInt = (m.toNat : Int) := by
    rw [BitVec.toInt_eq_toNat_of_lt (by simp; omega), BitVec.toNat_setWidth_of_le (by omega)]
  cases sign
  · exact hwide
  · simp only [tempValue, if_true, BitVec.toInt_neg, hwide]
    rw [Int.bmod_eq_of_le] <;> omega

theorem divtab_isSome_of_rowUnpack {f : FieldsX} (row : rowUnpack f = true) : (divtab f.dsel).isSome = true := by
  simp only [rowUnpack, Bool.and_eq_true] at row
  exact row.2

/-! ### What keeps the invariant -/

section
variable {s : State} (h : State.Inv s)
include h

theorem State.Inv.raise (e : Status) : State.Inv (Machine.raise e s) := { h with }
theorem State.Inv.succeed : State.Inv (Machine.succeed s) := { h with }
theorem State.Inv.loadDin (v : BitVec 48) : State.Inv (Machine.loadDin v s) := { h with }
theorem State.Inv.takePort (rest : List PortOp) : State.Inv (Machine.takePort rest s) := { h with }

theorem State.Inv.voidVerdict : State.Inv (Machine.voidVerdict s) := { h with verdictFramed := nofun }

theorem State.Inv.clearAcc : State.Inv (Machine.clearAcc s) :=
  { h with accCleared := fun _ => ⟨rfl, rfl⟩, divisorPresent := nofun }

theorem State.Inv.clearNib : State.Inv (Machine.clearNib s) := { h with nibCleared := fun _ => ⟨rfl, rfl⟩ }

theorem State.Inv.clearTemp : State.Inv (Machine.clearTemp s) :=
  { h with tempCleared := fun _ => ⟨rfl, rfl, rfl⟩, tempSigned := rfl }

theorem State.Inv.dispatchFail (c : Status) : State.Inv (Machine.dispatchFail c s) :=
  { h with headerCleared := fun _ => ⟨rfl, rfl, rfl, rfl, rfl⟩, headerRegistered := nofun, verdictFramed := nofun }

theorem State.Inv.latchAcc (v : BitVec 48) {d : BitVec 4} (hd : (divtab d).isSome = true) :
    State.Inv (Machine.latchAcc v d s) :=
  { h with accCleared := nofun, divisorPresent := fun _ => hd }

theorem State.Inv.latchNib (b : Byte) : State.Inv (Machine.latchNib b s) := { h with nibCleared := nofun }

theorem State.Inv.latchTemperature (hi lo : Byte) : State.Inv (Machine.latchTemperature hi lo s) :=
  { h with tempCleared := nofun, tempSigned := tempValue_toInt _ _ }

theorem State.Inv.captureHeader {e : RegistryEntry} (framed : framingBad s = false)
    (entry : registry (s.fbByte 1) = some e) (header : 4 ≤ s.flen.val) :
    State.Inv (Machine.captureHeader e s) :=
  have ⟨hovf, _, hlength⟩ := (framingBad_eq_false_iff s).mp framed
  { h with
    headerCleared := nofun
    headerRegistered := fun _ => ⟨e, entry, rfl, rfl⟩
    verdictFramed := fun _ => ⟨rfl, hovf, header, hlength, rfl, rfl, rfl⟩ }

theorem State.Inv.setOverflow (full : s.flen.val = 256) :
    State.Inv (Machine.voidVerdict (Machine.setOverflow s)) :=
  { h with overflowFull := fun _ => full, verdictFramed := nofun }

/-- A store inside FB that voids the verdict. -/
theorem State.Inv.setByte {a : Nat} (b : Byte) (ha : a < s.flen.val) :
    State.Inv (Machine.voidVerdict (s.setByte a b)) :=
  { h with
    fbCanonical := Memory.wf_write b (by omega) h.fbCanonical
    frameWritten := fun c hc => Memory.isSome_lookup_write b (.inr (h.frameWritten c hc))
    verdictFramed := nofun }

theorem State.Inv.memWrite {o n : Nat} (v : Nat) (inside : Machine.insideFrame s o n = true) :
    State.Inv (Machine.voidVerdict (Machine.memWrite s o n v)) :=
  have hin := (insideFrame_iff s o n).mp inside
  { h with
    fbCanonical := Memory.wf_writeBytes _ (by rw [bytesBE_length]; omega) h.fbCanonical
    frameWritten := fun c hc => Memory.isSome_lookup_writeBytes _ (h.frameWritten c hc)
    verdictFramed := nofun }

theorem State.Inv.appendByte (b : Byte) (room : s.flen.val < 256) :
    State.Inv (Machine.voidVerdict (Machine.appendByte b s)) :=
  { h with
    fbCanonical := Memory.wf_write b room h.fbCanonical
    frameWritten := fun c hc => Memory.isSome_lookup_write b <| by
      have hc' : c < (nextLength s.flen).val := hc
      rw [nextLength_val room] at hc'
      exact (Nat.lt_succ_iff_lt_or_eq.mp hc').symm.imp_right (h.frameWritten c)
    overflowFull := fun hovf => absurd (h.overflowFull hovf) (by omega)
    verdictFramed := nofun }

theorem State.Inv.storeTemperature {f : FieldsX} (inside : Machine.insideFrame s (windowOffset f) 2 = true) :
    State.Inv (Machine.voidVerdict (Machine.storeTemperature f s)) := by
  have hin := (insideFrame_iff s (windowOffset f) 2).mp inside
  have hhigh := h.setByte (a := windowOffset f) (tempHighByte (dinSigned s) f.t) (by omega)
  exact hhigh.setByte (tempLowByte (dinSigned s)) (by simp; omega)

/-- The draw after a command touches no byte of the frame, for every one was written (10_state.md R42, R43). -/
theorem State.Inv.freshDraw : State.Inv (Machine.freshDraw s) :=
  { h with
    verdictFramed := fun hvalid => by
      have hframed := h.verdictFramed hvalid
      have ⟨_, _, hheader, _⟩ := hframed
      have hbyte : ∀ a, a < 4 → (Machine.freshDraw s).fbByte a = s.fbByte a := fun a ha =>
        freshDraw_fbByte (h.frameWritten a (Nat.lt_of_lt_of_le ha hheader))
      rw [hbyte 0 (by omega), hbyte 1 (by omega), hbyte 2 (by omega), hbyte 3 (by omega)]
      exact hframed }

end

/-- The registers after RESET or CLR meet the invariant over any canonical FB, for the frame is empty. -/
theorem inv_of_resetRegisters {m : Memory} (hm : Memory.wf m = true) (p : List PortOp) (d : Nat) :
    State.Inv { State.reset with fb := m, port := p, draw := d } where
  fbCanonical := hm
  frameWritten := nofun
  overflowFull := nofun
  headerCleared := fun _ => ⟨rfl, rfl, rfl, rfl, rfl⟩
  accCleared := fun _ => ⟨rfl, rfl⟩
  nibCleared := fun _ => ⟨rfl, rfl⟩
  tempCleared := fun _ => ⟨rfl, rfl, rfl⟩
  headerRegistered := nofun
  divisorPresent := nofun
  tempSigned := rfl
  verdictFramed := nofun

theorem State.Inv.clearRegisters {s : State} (h : State.Inv s) : State.Inv (Machine.clearRegisters s) :=
  inv_of_resetRegisters h.fbCanonical s.port s.draw

theorem inv_resetPort (s : State) : State.Inv (resetPort s) :=
  inv_of_resetRegisters Memory.wf_reset s.port s.draw

/-- Every command keeps the invariant, whichever way it ends. -/
theorem State.Inv.exec {i : Instr} {s t : State} (h : State.Inv s) (hexec : Machine.exec i s = .next t) :
    State.Inv t := by
  cases exec_ends hexec with
  | illegalE | illegalF | badOperand | insertTruncated | packTruncated | npackTruncated | tencTruncated
  | finalTruncated => exact h.raise _
  | nop => exact h.succeed
  | clr => exact h.clearRegisters.succeed
  | ldin => exact (h.loadDin _).succeed
  | push f row room => exact (h.appendByte _ room).succeed
  | pushFull f row full => exact (h.setOverflow full).raise _
  | dispatch f e row framed entry header => exact (h.captureHeader framed entry header).succeed
  | dispatchFails => exact h.dispatchFail _
  | slice => exact (h.latchAcc _ rfl).succeed
  | unpack f row => exact (h.latchAcc _ (divtab_isSome_of_rowUnpack row)).succeed
  | sliceAbsent | unpackAbsent => exact h.clearAcc.raise _
  | sliceTruncated | unpackTruncated => exact h.clearAcc.voidVerdict.raise _
  | nsplit => exact (h.latchNib _).succeed
  | nsplitAbsent => exact h.clearNib.raise _
  | nsplitTruncated => exact h.clearNib.voidVerdict.raise _
  | tdec => exact (h.latchTemperature _ _).succeed
  | tdecAbsent => exact h.clearTemp.raise _
  | tdecTruncated => exact h.clearTemp.voidVerdict.raise _
  | insert f row fits inside => exact (h.memWrite _ inside).succeed
  | pack f row fits inside => exact (h.memWrite _ inside).succeed
  | npack f row fits inside => exact (h.setByte _ (nibbleAddress_lt inside)).succeed
  | tenc f row fits inside => exact (h.storeTemperature inside).succeed
  | final f row inside => exact (h.setByte _ ((insideFrame_iff s 0 1).mp inside)).succeed

end Sys2Proof.Machine

namespace Sys2Proof.Claims

/-- Settles O51: a command keeps the invariant by `State.Inv.exec` and RESET restores it; the draw after either
touches no byte of the frame. -/
theorem everyStepKeepsTheInvariant : Obligations.EveryStepKeepsTheInvariant := by
  intro s t h hstep
  rcases step_cases hstep with rfl | ⟨w, rest, u, hexec, rfl⟩ | ⟨rest, rfl⟩ | ⟨rest, rfl⟩
  · exact h
  · exact ((h.takePort rest).exec hexec).freshDraw
  · exact h.takePort rest
  · exact (inv_resetPort _).freshDraw

end Sys2Proof.Claims
end

section
/-! SUPPORT. The register map as numbers (10_state.md R39, R40): what RDREG reads at each address, as the sum of the
fields at their bit positions. -/

open Sys2Proof Sys2Proof.Machine Sys2Proof.Claims

namespace Sys2Proof.Machine

/-! ### Packed fields as numbers -/

theorem toNat_append_eq_add {m n : Nat} (x : BitVec m) (y : BitVec n) :
    (x ++ y).toNat = x.toNat * 2 ^ n + y.toNat := by
  rw [BitVec.toNat_append, ← Nat.shiftLeft_add_eq_or_of_lt y.isLt, Nat.shiftLeft_eq]

theorem statusCode_toNat (e : Status) : (statusCode e).toNat = statusNumber e := by cases e <;> rfl
theorem classCode_toNat (c : FrameClass) : (classCode c).toNat = classNumber c := by cases c <;> rfl

theorem statusNumber_injective {e f : Status} (h : statusNumber e = statusNumber f) : e = f := by
  cases e <;> cases f <;> cases h <;> rfl

theorem classNumber_injective {c d : FrameClass} (h : classNumber c = classNumber d) : c = d := by
  cases c <;> cases d <;> cases h <;> rfl

theorem classNumber_lt (c : FrameClass) : classNumber c < 4 := by cases c <;> decide

theorem fstatWord_toNat (s : State) :
    (fstatWord s).toNat = s.fvalid.toNat + 2 * s.ovf.toNat + 4 * s.hdrvld.toNat + 8 * classNumber s.cls +
      32 * s.subknown.toNat := by
  simp only [fstatWord, toNat_append_eq_add, BitVec.toNat_ofBool, classCode_toNat]
  simp
  omega

theorem accstWord_toNat (s : State) : (accstWord s).toNat = s.accVld.toNat + 2 * s.accDsel.toNat := by
  simp only [accstWord, toNat_append_eq_add, BitVec.toNat_ofBool]
  omega

theorem nibWord_toNat (s : State) :
    (nibWord s).toNat = s.batt.toNat + 16 * s.rssi.toNat + 256 * s.nibVld.toNat := by
  simp only [nibWord, toNat_append_eq_add, BitVec.toNat_ofBool]
  omega

theorem tregWord_toNat (s : State) :
    (tregWord s).toNat =
      s.tmag.toNat + 2 ^ 15 * s.tsign.toNat + 2 ^ 16 * s.temp.toNat + 2 ^ 32 * s.tVld.toNat := by
  simp only [tregWord, toNat_append_eq_add, BitVec.toNat_ofBool]
  omega

/-- A register narrower than RDREG's 64 bits reads as its own number. -/
theorem setWidth_64_toNat {n : Nat} (x : BitVec n) (h : n ≤ 64 := by decide) : (x.setWidth 64).toNat = x.toNat :=
  BitVec.toNat_setWidth_of_le h

theorem rdReg_flen_toNat (s : State) : (rdReg s 0x02).toNat = s.flen.val :=
  Nat.mod_eq_of_lt (by omega)

/-- A reserved address reads as 0 (10_state.md R40). -/
theorem rdReg_reserved (s : State) {a : BitVec 5} (h : 0x0B ≤ a.toNat) : rdReg s a = 0 := by
  simp only [rdReg]
  split
  case h_12 => rfl
  all_goals omega

/-- FSTAT's fields fill its six low bits, so every higher bit reads as 0 (10_state.md R40). -/
theorem fstat_reading_bit (s : State) {k : Nat} (h : 6 ≤ k) : (rdReg s 0x01).getLsbD k = false := by
  have hfields : (rdReg s 0x01).toNat < 2 ^ 6 := by
    have hcls := classNumber_lt s.cls
    have := s.fvalid.toNat_lt
    have := s.ovf.toNat_lt
    have := s.hdrvld.toNat_lt
    have := s.subknown.toNat_lt
    rw [show rdReg s 0x01 = (fstatWord s).setWidth 64 from rfl, setWidth_64_toNat, fstatWord_toNat]
    omega
  exact Nat.testBit_lt_two_pow (hfields.trans_le (Nat.pow_le_pow_right (by omega) h))

/-! ### A register's reading tells its fields apart -/

theorem append_inj_iff {m n : Nat} {x x' : BitVec m} {y y' : BitVec n} :
    x ++ y = x' ++ y' ↔ x = x' ∧ y = y' := by
  refine ⟨fun h => ⟨?_, ?_⟩, fun ⟨hx, hy⟩ => hx ▸ hy ▸ rfl⟩
  · rw [← Laws.extractLsb'_append_high x y, h, Laws.extractLsb'_append_high]
  · have hlow := congrArg (BitVec.extractLsb' 0 n) h
    rwa [Laws.extractLsb'_append_low _ _ (by omega), Laws.extractLsb'_append_low _ _ (by omega),
      BitVec.extractLsb'_eq_self, BitVec.extractLsb'_eq_self] at hlow

theorem setWidth_64_inj {n : Nat} {x y : BitVec n} (h : x.setWidth 64 = y.setWidth 64)
    (hn : n ≤ 64 := by decide) : x = y :=
  BitVec.eq_of_toNat_eq (by rw [← setWidth_64_toNat x hn, h, setWidth_64_toNat y hn])

theorem statusCode_injective {e f : Status} (h : statusCode e = statusCode f) : e = f :=
  statusNumber_injective (by rw [← statusCode_toNat, h, statusCode_toNat])

theorem classCode_injective {c d : FrameClass} (h : classCode c = classCode d) : c = d :=
  classNumber_injective (by rw [← classCode_toNat, h, classCode_toNat])

theorem fstat_fields_eq {s t : State} (h : fstatWord s = fstatWord t) :
    s.fvalid = t.fvalid ∧ s.ovf = t.ovf ∧ s.hdrvld = t.hdrvld ∧ s.cls = t.cls ∧ s.subknown = t.subknown := by
  have hparts : (0 : BitVec 2) ++ BitVec.ofBool s.subknown ++ classCode s.cls ++ BitVec.ofBool s.hdrvld ++
      BitVec.ofBool s.ovf ++ BitVec.ofBool s.fvalid =
    (0 : BitVec 2) ++ BitVec.ofBool t.subknown ++ classCode t.cls ++ BitVec.ofBool t.hdrvld ++
      BitVec.ofBool t.ovf ++ BitVec.ofBool t.fvalid := h
  simp only [append_inj_iff, BitVec.ofBool_eq_iff_eq] at hparts
  obtain ⟨⟨⟨⟨⟨-, hsubknown⟩, hcls⟩, hhdrvld⟩, hovf⟩, hfvalid⟩ := hparts
  exact ⟨hfvalid, hovf, hhdrvld, classCode_injective hcls, hsubknown⟩

theorem accst_fields_eq {s t : State} (h : accstWord s = accstWord t) :
    s.accDsel = t.accDsel ∧ s.accVld = t.accVld := by
  have hparts : s.accDsel ++ BitVec.ofBool s.accVld = t.accDsel ++ BitVec.ofBool t.accVld := h
  simpa only [append_inj_iff, BitVec.ofBool_eq_iff_eq] using hparts

theorem nib_fields_eq {s t : State} (h : nibWord s = nibWord t) :
    (s.nibVld = t.nibVld ∧ s.rssi = t.rssi) ∧ s.batt = t.batt := by
  have hparts : BitVec.ofBool s.nibVld ++ s.rssi ++ s.batt = BitVec.ofBool t.nibVld ++ t.rssi ++ t.batt := h
  simpa only [append_inj_iff, BitVec.ofBool_eq_iff_eq] using hparts

theorem treg_fields_eq {s t : State} (h : tregWord s = tregWord t) :
    ((s.tVld = t.tVld ∧ s.temp = t.temp) ∧ s.tsign = t.tsign) ∧ s.tmag = t.tmag := by
  have hparts : BitVec.ofBool s.tVld ++ s.temp ++ BitVec.ofBool s.tsign ++ s.tmag =
    BitVec.ofBool t.tVld ++ t.temp ++ BitVec.ofBool t.tsign ++ t.tmag := h
  simpa only [append_inj_iff, BitVec.ofBool_eq_iff_eq] using hparts

theorem flen_eq_of_reading {s t : State} (h : rdReg s 0x02 = rdReg t 0x02) : s.flen = t.flen :=
  Fin.ext (by rw [← rdReg_flen_toNat, h, rdReg_flen_toNat])

end Sys2Proof.Machine

namespace Sys2Proof.Claims

/-- Settles O14: each register by the number of its packed word. -/
theorem registerMapFields : Obligations.RegisterMapFields := by
  intro s
  exact ⟨(setWidth_64_toNat _).trans (statusCode_toNat _), (setWidth_64_toNat _).trans (fstatWord_toNat s),
    rdReg_flen_toNat s, setWidth_64_toNat _, setWidth_64_toNat _, setWidth_64_toNat _,
    setWidth_64_toNat _, (setWidth_64_toNat _).trans (accstWord_toNat s),
    (setWidth_64_toNat _).trans (nibWord_toNat s), (setWidth_64_toNat _).trans (tregWord_toNat s),
    setWidth_64_toNat _, fun a ha => rdReg_reserved s ha⟩

/-- Settles O16: each register's reading gives its fields, address by address. -/
theorem noRegisterIsHidden : Obligations.NoRegisterIsHidden := by
  intro s t h
  have hopstat : s.opstat = t.opstat := statusCode_injective (setWidth_64_inj (h 0x00))
  have hfstat := fstat_fields_eq (setWidth_64_inj (h 0x01))
  have hflen : s.flen = t.flen := flen_eq_of_reading (h 0x02)
  have htyp : s.typ = t.typ := setWidth_64_inj (h 0x03)
  have hsubtype : s.subtype = t.subtype := setWidth_64_inj (h 0x04)
  have hseq : s.seq = t.seq := setWidth_64_inj (h 0x05)
  have hacc : s.acc = t.acc := setWidth_64_inj (h 0x06)
  have haccst := accst_fields_eq (setWidth_64_inj (h 0x07))
  have hnib := nib_fields_eq (setWidth_64_inj (h 0x08))
  have htreg := treg_fields_eq (setWidth_64_inj (h 0x09))
  have hdin : s.din = t.din := setWidth_64_inj (h 0x0A)
  cases s
  cases t
  simp_all [sameRegisters]

/-- Settles O10: the arms of `step` and `answer` for a read. -/
theorem hostReadsChangeNothing : Obligations.HostReadsChangeNothing := by
  refine ⟨fun s a rest hport => ⟨step_of_port_rdreg hport, ?_⟩,
    fun s i rest hport => ⟨step_of_port_rdfb hport, fun hinside => ?_⟩⟩
  · simp only [answer, hport]
  · simp only [answer, hport, rdFb, if_pos hinside]

/-- Settles O15: reserved addresses by the last arm of `rdReg`, the bits by the size of FSTAT's fields. -/
theorem reservedReadsAreZero : Obligations.ReservedReadsAreZero := by
  intro s
  exact ⟨fun a ha => ⟨rdReg_reserved s ha, fun rest hport => step_of_port_rdreg hport⟩,
    fstat_reading_bit s (by omega), fstat_reading_bit s (by omega)⟩

end Sys2Proof.Claims
end

section
/-! SUPPORT. The write matrix (10_state.md R44), one lemma per column, and what follows for FLEN, OVF, FVALID, HDRVLD
and the result groups (10_state.md R22, R23, R26, R27, R37). -/

open Sys2Proof Sys2Proof.Machine Sys2Proof.Claims

namespace Sys2Proof.Machine

/-! ### The columns of the write matrix: who can change a state element -/

section
variable {i : Instr} {s t : State} (h : exec i s = .next t)
include h

theorem exec_fb_of_not_writesFb (hwrites : writesFb i = false) : t.fb = s.fb := by
  cases exec_ends h with
  | push | insert | pack | npack | tenc | final => cases hwrites
  | _ => rfl

theorem exec_length_of_not_clr_push (hclr : isClr i = false) (hpush : isPush i = false) :
    t.flen = s.flen ∧ t.ovf = s.ovf := by
  cases exec_ends h with
  | clr => cases hclr
  | push | pushFull => cases hpush
  | _ => exact ⟨rfl, rfl⟩

theorem exec_fvalid_of_leavesVerdict (hleaves : leavesVerdict i = true) : t.fvalid = s.fvalid := by
  cases exec_ends h with
  | illegalE | illegalF | badOperand | nop | ldin => rfl
  | _ => cases hleaves

theorem exec_header_of_not_clr_dispatch (hclr : isClr i = false) (hdispatch : isDispatch i = false) :
    t.hdrvld = s.hdrvld ∧ t.typ = s.typ ∧ t.subtype = s.subtype ∧ t.seq = s.seq ∧ t.cls = s.cls ∧
      t.subknown = s.subknown := by
  cases exec_ends h with
  | clr => cases hclr
  | dispatch | dispatchFails => cases hdispatch
  | _ => exact ⟨rfl, rfl, rfl, rfl, rfl, rfl⟩

theorem exec_acc_of_not_clr_slice_unpack (hclr : isClr i = false) (hslice : ∀ f, i ≠ .slice f)
    (hunpack : ∀ f, i ≠ .unpack f) : t.acc = s.acc ∧ t.accVld = s.accVld ∧ t.accDsel = s.accDsel := by
  cases exec_ends h with
  | clr => cases hclr
  | slice f | sliceAbsent f | sliceTruncated f => exact absurd rfl (hslice f)
  | unpack f | unpackAbsent f | unpackTruncated f => exact absurd rfl (hunpack f)
  | _ => exact ⟨rfl, rfl, rfl⟩

theorem exec_nib_of_not_clr_nsplit (hclr : isClr i = false) (hnsplit : ∀ f, i ≠ .nsplit f) :
    t.rssi = s.rssi ∧ t.batt = s.batt ∧ t.nibVld = s.nibVld := by
  cases exec_ends h with
  | clr => cases hclr
  | nsplit f | nsplitAbsent f | nsplitTruncated f => exact absurd rfl (hnsplit f)
  | _ => exact ⟨rfl, rfl, rfl⟩

theorem exec_temp_of_not_clr_tdec (hclr : isClr i = false) (htdec : ∀ f, i ≠ .tdec f) :
    t.tsign = s.tsign ∧ t.tmag = s.tmag ∧ t.temp = s.temp ∧ t.tVld = s.tVld := by
  cases exec_ends h with
  | clr => cases hclr
  | tdec f | tdecAbsent f | tdecTruncated f => exact absurd rfl (htdec f)
  | _ => exact ⟨rfl, rfl, rfl, rfl⟩

theorem exec_din_of_not_clr_ldin (hclr : isClr i = false) (hldin : ∀ f, i ≠ .ldin f) : t.din = s.din := by
  cases exec_ends h with
  | clr => cases hclr
  | ldin f => exact absurd rfl (hldin f)
  | _ => rfl

/-- The model's own fields (log entries 1 and 3). -/
theorem exec_port_draw : t.port = s.port ∧ t.draw = s.draw := by
  cases exec_ends h <;> exact ⟨rfl, rfl⟩

/-! ### A cleared valid bit clears its group -/

theorem exec_header_cleared (hbefore : s.hdrvld = true) (hafter : t.hdrvld = false) :
    t.typ = 0 ∧ t.subtype = 0 ∧ t.seq = 0 ∧ t.cls = .none ∧ t.subknown = false := by
  cases exec_ends h with
  | clr | dispatchFails => exact ⟨rfl, rfl, rfl, rfl, rfl⟩
  | dispatch => cases hafter
  | _ => cases hbefore.symm.trans hafter

theorem exec_acc_cleared (hbefore : s.accVld = true) (hafter : t.accVld = false) : t.acc = 0 ∧ t.accDsel = 0 := by
  cases exec_ends h with
  | clr | sliceAbsent | sliceTruncated | unpackAbsent | unpackTruncated => exact ⟨rfl, rfl⟩
  | slice | unpack => cases hafter
  | _ => cases hbefore.symm.trans hafter

theorem exec_nib_cleared (hbefore : s.nibVld = true) (hafter : t.nibVld = false) : t.rssi = 0 ∧ t.batt = 0 := by
  cases exec_ends h with
  | clr | nsplitAbsent | nsplitTruncated => exact ⟨rfl, rfl⟩
  | nsplit => cases hafter
  | _ => cases hbefore.symm.trans hafter

theorem exec_temp_cleared (hbefore : s.tVld = true) (hafter : t.tVld = false) :
    t.tsign = false ∧ t.tmag = 0 ∧ t.temp = 0 := by
  cases exec_ends h with
  | clr | tdecAbsent | tdecTruncated => exact ⟨rfl, rfl, rfl⟩
  | tdec => cases hafter
  | _ => cases hbefore.symm.trans hafter

/-! ### How FVALID, HDRVLD, FLEN and OVF change

In each way of ending but the generic BAD_OPERAND, the failed checks of DISPATCH and the PUSH that appends, the
conditions are about a given constructor and a given code, and evaluate. -/

theorem exec_fvalid :
    t.fvalid =
      if isDispatch i = true ∧ t.opstat = .ok then true
      else if (isDispatch i = true ∧ t.opstat ≠ .badOperand) ∨ (readsField i = true ∧ t.opstat = .truncated) ∨
        (writesFb i = true ∧ t.opstat = .ok) ∨ t.opstat = .overflow ∨ (isClr i = true ∧ t.opstat = .ok) then false
      else s.fvalid := by
  cases exec_ends h with
  | badOperand => simp
  | dispatchFails f c code => obtain rfl | rfl | rfl := code <;> rfl
  | _ => rfl

theorem exec_hdrvld :
    t.hdrvld =
      if isDispatch i = true ∧ t.opstat = .ok then true
      else if (isDispatch i = true ∧ t.opstat ≠ .badOperand) ∨ (isClr i = true ∧ t.opstat = .ok) then false
      else s.hdrvld := by
  cases exec_ends h with
  | badOperand => simp
  | dispatchFails f c code => obtain rfl | rfl | rfl := code <;> rfl
  | _ => rfl

theorem exec_flen :
    t.flen.val =
      if isPush i = true ∧ t.opstat = .ok then s.flen.val + 1
      else if isClr i = true ∧ t.opstat = .ok then 0
      else s.flen.val := by
  cases exec_ends h with
  | badOperand => simp
  | push f row room => exact nextLength_val room
  | _ => rfl

theorem exec_ovf :
    t.ovf = if t.opstat = .overflow then true else if isClr i = true ∧ t.opstat = .ok then false else s.ovf := by
  cases exec_ends h with
  | badOperand => simp
  | dispatchFails f c code => obtain rfl | rfl | rfl := code <;> rfl
  | _ => rfl

end

/-! ### PUSH on a full buffer, and DISPATCH after it -/

/-- A byte extended to 48 bits has bits 47:8 clear, as row PUSH of 30_encoding.md R76 asks. -/
theorem rowPush_of_byte (b : Byte) : rowPush { rsvd := 0, imm := b.setWidth 48 } = true := by
  have hhigh : (b.setWidth 48).extractLsb' 8 40 = 0 := by
    ext k hk
    simp
  simp only [rowPush, hhigh, decide_true, Bool.and_self]

theorem exec_push_full (b : Byte) {s : State} (full : s.flen.val = 256) :
    exec (.push { rsvd := 0, imm := b.setWidth 48 }) s = .next (raise .overflow (voidVerdict (setOverflow s))) := by
  simp only [exec, execPush, rowPush_of_byte, full, Bool.not_true, Bool.false_eq_true, if_false, if_true]

theorem exec_dispatch_overflowed {s : State} (hovf : s.ovf = true) :
    exec (.dispatch zeroX) s = .next (dispatchFail .framing s) := by
  have hrow : rowDispatch zeroX = true := rfl
  have hframing : framingBad s = true := by simp [framingBad, hovf]
  simp [exec, execDispatch, hrow, hframing]

end Sys2Proof.Machine

namespace Sys2Proof.Claims

/-- Settles O46: the columns of the matrix, one by one. -/
theorem writeMatrixDashes : Obligations.WriteMatrixDashes := fun _ _ _ h =>
  ⟨exec_fb_of_not_writesFb h, exec_length_of_not_clr_push h, exec_fvalid_of_leavesVerdict h,
    exec_header_of_not_clr_dispatch h, exec_acc_of_not_clr_slice_unpack h, exec_nib_of_not_clr_nsplit h,
    exec_temp_of_not_clr_tdec h, exec_din_of_not_clr_ldin h, exec_port_draw h⟩

/-- Settles O47: group by group. -/
theorem clearedValidBitClearsItsGroup : Obligations.ClearedValidBitClearsItsGroup := fun _ _ _ h =>
  ⟨exec_header_cleared h, exec_acc_cleared h, exec_nib_cleared h, exec_temp_cleared h⟩

/-- Settles O42: `exec_fvalid` for the commands, the Reset column for RESET. -/
theorem verdictChangesOnlyAsListed : Obligations.VerdictChangesOnlyAsListed :=
  ⟨fun _ _ _ h => exec_fvalid h, fun _ _ hport => ⟨_, step_of_port_reset hport, rfl⟩⟩

/-- Settles O43: `exec_hdrvld` for the commands, the Reset column for RESET. -/
theorem headerValidChangesOnlyAsListed : Obligations.HeaderValidChangesOnlyAsListed :=
  ⟨fun _ _ _ h => exec_hdrvld h, fun _ _ hport => ⟨_, step_of_port_reset hport, rfl⟩⟩

/-- Settles O44: FLEN is at most 256 by its type (log entry 12). -/
theorem frameLengthChangesOnlyAsListed : Obligations.FrameLengthChangesOnlyAsListed :=
  ⟨fun _ _ _ h => exec_flen h, fun s => Nat.le_of_lt_succ s.flen.isLt,
    fun _ _ hport => ⟨_, step_of_port_reset hport, rfl⟩⟩

/-- Settles O45: `exec_ovf` for the commands, the one end of a PUSH on a full buffer and of a DISPATCH after it, and
the Reset column for RESET. -/
theorem overflowIsStickyUntilClr : Obligations.OverflowIsStickyUntilClr :=
  ⟨fun _ _ _ h => exec_ovf h, fun b _ full => ⟨_, exec_push_full b full, rfl, rfl⟩,
    fun _ hovf => ⟨_, exec_dispatch_overflowed hovf, rfl⟩,
    fun _ _ hport => ⟨_, step_of_port_reset hport, rfl⟩⟩

end Sys2Proof.Claims
end

section
/-! SUPPORT. The rules of 20_memory.md about sequences, failed commands and repeated commands: no command touches the
port, so a run of the host's interactions can be cut anywhere (R62); a failed command writes nothing of FB, FLEN and
DIN (R58); and what each shared shape of a command leaves when it is run a second time (R59). -/

open Sys2Proof Sys2Proof.Machine Sys2Proof.Claims

namespace Sys2Proof.Machine

/-! ### No command reads or writes the port -/

theorem memRead_takePort (r : List PortOp) (s : State) (o n : Nat) : memRead (takePort r s) o n = memRead s o n :=
  beValue_congr fun _ _ _ => rfl

section
variable (r : List PortOp) (s : State)

theorem controlCommand_takePort {effect : State → State} (rowOk : Bool)
    (heffect : effect (takePort r s) = takePort r (effect s) := by rfl) :
    controlCommand rowOk effect (takePort r s) = takePort r (controlCommand rowOk effect s) := by
  simp only [controlCommand, heffect]
  split <;> rfl

theorem readCommand_takePort {clear latch : State → State} (rowOk absent inside : Bool)
    (hclear : clear (takePort r s) = takePort r (clear s) := by rfl)
    (hlatch : latch (takePort r s) = takePort r (latch s) := by rfl) :
    readCommand rowOk absent inside clear latch (takePort r s) =
      takePort r (readCommand rowOk absent inside clear latch s) := by
  simp only [readCommand, hclear, hlatch]
  split_ifs <;> rfl

theorem writeCommand_takePort {store : State → State} (rowOk valueOk inside : Bool)
    (hstore : store (takePort r s) = takePort r (store s) := by rfl) :
    writeCommand rowOk valueOk inside store (takePort r s) =
      takePort r (writeCommand rowOk valueOk inside store s) := by
  simp only [writeCommand, hstore]
  split_ifs <;> rfl

theorem latchSlice_takePort (f : FieldsX) : latchSlice f (takePort r s) = takePort r (latchSlice f s) := by
  rw [latchSlice, memRead_takePort]; rfl

theorem latchInteger_takePort (f : FieldsX) : latchInteger f (takePort r s) = takePort r (latchInteger f s) := by
  rw [latchInteger, memRead_takePort]; rfl

theorem storeField_takePort (f : FieldsX) : storeField f (takePort r s) = takePort r (storeField f s) := by
  rw [storeField, memRead_takePort]; rfl

end

section
variable {s t : State} (r : List PortOp)

theorem execPush_takePort {f : FieldsD} (h : execPush f s = .next t) :
    execPush f (takePort r s) = .next (takePort r t) := by
  cases h
  refine congrArg Host.Outcome.next ?_
  change (if !rowPush f then _ else if s.flen.val = 256 then _ else _) = _
  split_ifs <;> rfl

theorem execDispatch_takePort {f : FieldsX} (h : execDispatch f s = .next t) :
    execDispatch f (takePort r s) = .next (takePort r t) := by
  have hframing : framingBad (takePort r s) = framingBad s := rfl
  simp only [execDispatch, hframing, takePort_fbByte, takePort_flen, Host.Outcome.next.injEq] at h ⊢
  subst h
  cases registry (s.fbByte 1) with
  | none => split_ifs <;> rfl
  | some e =>
    by_cases hshort : s.flen.val < 4
    · simp only [hshort, if_true]
      split_ifs <;> rfl
    · simp only [hshort, if_false]
      split_ifs <;> rfl

/-- A command does the same whatever the host has still to do (20_memory.md R62; log entry 1). -/
theorem exec_takePort {i : Instr} (h : exec i s = .next t) : exec i (takePort r s) = .next (takePort r t) := by
  cases i with
  | push f => exact execPush_takePort r h
  | dispatch f => exact execDispatch_takePort r h
  | nop f | clr f | ldin f => cases h; exact congrArg Host.Outcome.next (controlCommand_takePort r s _)
  | slice f =>
    cases h
    exact congrArg Host.Outcome.next (readCommand_takePort r s _ _ _ (hlatch := latchSlice_takePort r s f))
  | unpack f =>
    cases h
    exact congrArg Host.Outcome.next (readCommand_takePort r s _ _ _ (hlatch := latchInteger_takePort r s f))
  | nsplit f | tdec f => cases h; exact congrArg Host.Outcome.next (readCommand_takePort r s _ _ _)
  | insert f => cases h; exact congrArg Host.Outcome.next (writeCommand_takePort r s _ _ _ (storeField_takePort r s f))
  | pack f | npack f | tenc f | final f => cases h; exact congrArg Host.Outcome.next (writeCommand_takePort r s _ _ _)
  | reservedE | reservedF => cases h; rfl

end

/-- Every command has a next state (60_exceptions.md R220). -/
theorem exec_total (i : Instr) (s : State) : ∃ t, exec i s = .next t := by
  cases i <;> exact ⟨_, rfl⟩

/-! ### Runs of the host's interactions -/

/-- One interaction leads to one state, with whatever the host does after it left on the port. -/
theorem step_takePort_cons (op : PortOp) (s : State) :
    ∃ t, ∀ rest, step (takePort (op :: rest) s) = .next (takePort rest t) := by
  cases op with
  | cmd w =>
    obtain ⟨t, ht⟩ := exec_total (decode w) s
    refine ⟨freshDraw t, fun rest => ?_⟩
    have hrun : exec (decode w) (takePort rest (takePort (.cmd w :: rest) s)) = .next (takePort rest t) :=
      exec_takePort (s := s) rest ht
    rw [step_of_port_cmd (takePort_port _ s), hrun]
    rfl
  | rdreg a => exact ⟨s, fun _ => rfl⟩
  | rdfb i => exact ⟨s, fun _ => rfl⟩
  | reset => exact ⟨freshDraw (resetPort s), fun _ => rfl⟩

theorem run_succ_of_step {s t : State} (k : Nat) (h : step s = .next t) :
    Host.Core.run core (k + 1) s = Host.Core.run core k t := by
  have hstep : core.step s = .next t := h
  simp only [Host.Core.run, hstep]

/-- The first interaction of a sequence is one step of the fold (20_memory.md R62). -/
theorem afterOps_cons (op : PortOp) (s : State) : ∃ t, ∀ ops, afterOps (op :: ops) s = afterOps ops t := by
  obtain ⟨t, hstep⟩ := step_takePort_cons op s
  exact ⟨t, fun ops => run_succ_of_step ops.length (hstep ops)⟩

/-! ### A failed command writes nothing of FB, FLEN and DIN -/

/-- Each way of ending that is not a success only clears result groups and sets flags (60_exceptions.md R225). -/
theorem exec_fb_flen_din_of_failed {i : Instr} {s t : State} (h : exec i s = .next t) (hfailed : t.opstat ≠ .ok) :
    t.fb = s.fb ∧ t.flen = s.flen ∧ t.din = s.din := by
  cases exec_ends h with
  | illegalE | illegalF | badOperand | pushFull | dispatchFails | sliceAbsent | sliceTruncated | unpackAbsent
  | unpackTruncated | nsplitAbsent | nsplitTruncated | tdecAbsent | tdecTruncated | insertTruncated
  | packTruncated | npackTruncated | tencTruncated | finalTruncated => exact ⟨rfl, rfl, rfl⟩
  | _ => exact absurd rfl hfailed

/-! ### A window read back after a store -/

/-- A window reads as the value stored there, cut to the window (00_scope.md R10, R11). -/
theorem memRead_memWrite (s : State) (o n v : Nat) : memRead (memWrite s o n v) o n = v % 2 ^ (8 * n) := by
  induction n generalizing o with
  | zero => simp [memRead, Nat.mod_one]
  | succ n ih =>
    have hlow : (memWrite s o (n + 1) v).beValue (o + 1) n = v % 2 ^ (8 * n) := by
      rw [← ih (o + 1)]
      refine beValue_congr fun a hlo hhi => ?_
      rw [memWrite_fbByte, memWrite_fbByte, if_pos (by omega), if_pos (by omega),
        show n + 1 - 1 - (a - o) = n - 1 - (a - (o + 1)) by omega]
    have hhigh : ((memWrite s o (n + 1) v).fbByte o).toNat = v / 2 ^ (8 * n) % 2 ^ 8 := by
      rw [memWrite_fbByte, if_pos (by omega), BitVec.toNat_ofNat, Nat.shiftRight_eq_div_pow]
      simp
    rw [memRead, beValue_succ, hlow, hhigh, show 8 * (n + 1) = 8 * n + 8 by omega, Nat.pow_add, Nat.mod_mul]
    ring

/-- The value that INSERT stores fits its window (45_bitslice.md R202). -/
theorem insertValue_lt {f : FieldsX} {v d : Nat} (row : rowInsert f = true) (hv : v < 2 ^ (8 * f.nb.toNat))
    (hd : d < 2 ^ f.wid.toNat) : insertValue f v d < 2 ^ (8 * f.nb.toNat) := by
  have hfits : f.lsb.toNat + f.wid.toNat ≤ 8 * f.nb.toNat := by
    simp only [rowInsert, bitFieldFits, Bool.and_eq_true, decide_eq_true_eq] at row
    omega
  have hfield : d <<< f.lsb.toNat < 2 ^ (8 * f.nb.toNat) :=
    calc d <<< f.lsb.toNat = d * 2 ^ f.lsb.toNat := Nat.shiftLeft_eq _ _
      _ < 2 ^ f.wid.toNat * 2 ^ f.lsb.toNat := Nat.mul_lt_mul_of_pos_right hd (Nat.two_pow_pos _)
      _ = 2 ^ (f.lsb.toNat + f.wid.toNat) := by rw [← Nat.pow_add, Nat.add_comm]
      _ ≤ 2 ^ (8 * f.nb.toNat) := Nat.pow_le_pow_right (by omega) hfits
  exact Nat.or_lt_two_pow (Nat.and_le_left.trans_lt hv) hfield

/-- Inserting the same field again: the bits around it were kept, the field is overwritten by itself. -/
theorem insertValue_insertValue (f : FieldsX) (v d : Nat) :
    insertValue f (insertValue f v d) d = insertValue f v d := by
  refine Nat.eq_of_testBit_eq fun k => ?_
  simp only [insertValue, Nat.testBit_or, Nat.testBit_and]
  cases (d <<< f.lsb.toNat).testBit k <;> simp

/-! ### The store of a writing command, made a second time -/

section
variable (s : State) (a : Nat)

/-- A byte stored again over the state its first store left, of which a command's end changes no byte. -/
theorem setByte_again (o : Nat) (b : Byte) :
    ((succeed (voidVerdict (s.setByte o b))).setByte o b).fbByte a = (s.setByte o b).fbByte a := by
  simp only [setByte_fbByte, succeed_fbByte, voidVerdict_fbByte]
  split <;> rfl

theorem memWrite_again (o n v : Nat) :
    (memWrite (succeed (voidVerdict (memWrite s o n v))) o n v).fbByte a = (memWrite s o n v).fbByte a := by
  simp only [memWrite_fbByte, succeed_fbByte, voidVerdict_fbByte]
  split <;> rfl

theorem storeInteger_again (f : FieldsX) :
    (storeInteger f (succeed (voidVerdict (storeInteger f s)))).fbByte a = (storeInteger f s).fbByte a :=
  memWrite_again s a _ _ _

theorem storeTemperature_again (f : FieldsX) :
    (storeTemperature f (succeed (voidVerdict (storeTemperature f s)))).fbByte a =
      (storeTemperature f s).fbByte a := by
  simp only [storeTemperature, dinSigned, setByte_din, succeed_din, voidVerdict_din, setByte_fbByte, succeed_fbByte,
    voidVerdict_fbByte]
  split_ifs <;> rfl

end

theorem storeField_again {s : State} {f : FieldsX} (a : Nat) (row : rowInsert f = true)
    (fits : dinValue s < 2 ^ f.wid.toNat) :
    (storeField f (succeed (voidVerdict (storeField f s)))).fbByte a = (storeField f s).fbByte a := by
  have hvalue := insertValue_lt row (beValue_lt s (windowOffset f) (windowLength f)) fits
  have hread : memRead (succeed (voidVerdict (storeField f s))) (windowOffset f) (windowLength f) =
      insertValue f (memRead s (windowOffset f) (windowLength f)) (dinValue s) :=
    calc memRead (succeed (voidVerdict (storeField f s))) (windowOffset f) (windowLength f)
      _ = memRead (storeField f s) (windowOffset f) (windowLength f) := beValue_congr fun _ _ _ => rfl
      _ = _ % 2 ^ (8 * windowLength f) := memRead_memWrite _ _ _ _
      _ = _ := Nat.mod_eq_of_lt hvalue
  have hdin : dinValue (succeed (voidVerdict (storeField f s))) = dinValue s := rfl
  rw [storeField, hread, hdin, insertValue_insertValue]
  exact memWrite_again s a _ _ _

/-! ### The shared shapes, run a second time -/

/-- A reading command run on what it left: the same checks end it the same way, and each way's clears or result are
there already. -/
theorem readCommand_again {rowOk absent inside inside' : Bool} {clear latch : State → State} {s t : State}
    (ht : readCommand rowOk absent inside clear latch s = t) (hinside : inside' = inside)
    (hlatch : latch (succeed (latch s)) = succeed (latch s))
    (habsent : clear (raise .absent (clear s)) = raise .absent (clear s) := by rfl)
    (hshort : clear (raise .truncated (voidVerdict (clear s))) = raise .truncated (voidVerdict (clear s)) := by rfl) :
    readCommand rowOk absent inside' clear latch t = t := by
  subst ht hinside
  simp only [readCommand]
  split_ifs
  · rfl
  · rw [habsent]; rfl
  · rw [hshort]; rfl
  · rw [hlatch]; rfl

/-- A writing command run on what it left: it fails again and writes nothing, or it stores again over its own
store. -/
theorem writeCommand_again {rowOk valueOk valueOk' inside inside' : Bool} {store : State → State} {s t : State}
    {a : Nat} (ht : writeCommand rowOk valueOk inside store s = t) (hvalue : valueOk' = valueOk)
    (hinside : inside' = inside)
    (hstore : rowOk = true → valueOk = true →
      (store (succeed (voidVerdict (store s)))).fbByte a = (store s).fbByte a) :
    (writeCommand rowOk valueOk' inside' store t).fbByte a = t.fbByte a := by
  subst ht hvalue hinside
  simp only [writeCommand]
  split_ifs with hrow hval
  · rfl
  · rfl
  · rfl
  · exact hstore (by simpa using hrow) (by simpa using hval)

/-! ### The result of a reading command, latched a second time -/

theorem latchSlice_again (s : State) (f : FieldsX) :
    latchSlice f (succeed (latchSlice f s)) = succeed (latchSlice f s) := by
  have hread : memRead (succeed (latchSlice f s)) (windowOffset f) (windowLength f) =
      memRead s (windowOffset f) (windowLength f) := beValue_congr fun _ _ _ => rfl
  rw [latchSlice, hread]; rfl

theorem latchInteger_again (s : State) (f : FieldsX) :
    latchInteger f (succeed (latchInteger f s)) = succeed (latchInteger f s) := by
  have hread : memRead (succeed (latchInteger f s)) (windowOffset f) (windowLength f) =
      memRead s (windowOffset f) (windowLength f) := beValue_congr fun _ _ _ => rfl
  rw [latchInteger, hread]; rfl

/-! ### What the checks of the second run see -/

theorem insideFrame_of_flen_eq {s t : State} (h : t.flen = s.flen) (o n : Nat) :
    insideFrame t o n = insideFrame s o n := by
  simp only [insideFrame, h]

theorem nibbleInside_of_flen_eq {s t : State} (h : t.flen = s.flen) (f : FieldsX) :
    nibbleInside f t = nibbleInside f s := by
  simp only [nibbleInside, h]

theorem not_clr_push_of_readsField {i : Instr} (h : readsField i = true) : isClr i = false ∧ isPush i = false := by
  cases i with
  | slice | unpack | nsplit | tdec => exact ⟨rfl, rfl⟩
  | _ => cases h

theorem not_clr_ldin_of_writesFb {i : Instr} (h : writesFb i = true) : isClr i = false ∧ ∀ f, i ≠ .ldin f := by
  cases i with
  | push | insert | pack | npack | tenc | final => exact ⟨rfl, nofun⟩
  | _ => cases h

/-! ### A command run a second time -/

/-- A command that does not write FB leaves every byte, and the draw of the unspecified ones. -/
theorem exec_fbByte_of_not_writesFb {i : Instr} {s t : State} (h : exec i s = .next t) (hwrites : writesFb i = false)
    (a : Nat) : t.fbByte a = s.fbByte a := by
  simp only [State.fbByte, exec_fb_of_not_writesFb h hwrites, (exec_port_draw h).2]

section
variable {i : Instr} {s t u : State} (hs : exec i s = .next t) (hu : exec i t = .next u)
include hs hu

/-- A repeated reading command changes nothing at all. -/
theorem exec_again_of_readsField (hreads : readsField i = true) : u = t := by
  obtain ⟨hclr, hpush⟩ := not_clr_push_of_readsField hreads
  obtain ⟨hlen, -⟩ := exec_length_of_not_clr_push hs hclr hpush
  cases i with
  | slice f =>
    cases hu
    exact readCommand_again (Host.Outcome.next.inj hs) (insideFrame_of_flen_eq hlen _ _) (latchSlice_again s f)
  | unpack f =>
    cases hu
    exact readCommand_again (Host.Outcome.next.inj hs) (insideFrame_of_flen_eq hlen _ _) (latchInteger_again s f)
  | nsplit f =>
    cases hu
    exact readCommand_again (Host.Outcome.next.inj hs) (nibbleInside_of_flen_eq hlen f) rfl
  | tdec f =>
    cases hu
    exact readCommand_again (Host.Outcome.next.inj hs) (insideFrame_of_flen_eq hlen _ _) rfl
  | _ => cases hreads

/-- A repeated writing command but PUSH stores the bytes that stand there already. -/
theorem exec_again_fbByte_of_writesFb (hwrites : writesFb i = true) (hpush : isPush i = false) (a : Nat) :
    u.fbByte a = t.fbByte a := by
  obtain ⟨hclr, hldin⟩ := not_clr_ldin_of_writesFb hwrites
  obtain ⟨hlen, -⟩ := exec_length_of_not_clr_push hs hclr hpush
  have hdin : t.din = s.din := exec_din_of_not_clr_ldin hs hclr hldin
  have hvalue : dinValue t = dinValue s := congrArg BitVec.toNat hdin
  have hsigned : dinSigned t = dinSigned s := congrArg BitVec.toInt hdin
  cases i with
  | insert f =>
    cases hu
    exact writeCommand_again (Host.Outcome.next.inj hs) (by rw [hvalue]) (insideFrame_of_flen_eq hlen _ _)
      fun row fits => storeField_again a row (of_decide_eq_true fits)
  | pack f =>
    cases hu
    exact writeCommand_again (Host.Outcome.next.inj hs) (by rw [hvalue]) (insideFrame_of_flen_eq hlen _ _)
      fun _ _ => storeInteger_again s a f
  | npack f =>
    cases hu
    exact writeCommand_again (Host.Outcome.next.inj hs) (by rw [hvalue]) (nibbleInside_of_flen_eq hlen f)
      fun _ _ => setByte_again s a _ _
  | tenc f =>
    cases hu
    exact writeCommand_again (Host.Outcome.next.inj hs) (by rw [hsigned]) (insideFrame_of_flen_eq hlen _ _)
      fun _ _ => storeTemperature_again s a f
  | final f =>
    cases hu
    exact writeCommand_again (Host.Outcome.next.inj hs) rfl (insideFrame_of_flen_eq hlen _ _)
      fun _ _ => setByte_again s a _ _
  | push => cases hpush
  | _ => cases hwrites

theorem exec_again_fbByte (hpush : isPush i = false) (a : Nat) : u.fbByte a = t.fbByte a := by
  cases hwrites : writesFb i with
  | false => exact exec_fbByte_of_not_writesFb hu hwrites a
  | true => exact exec_again_fbByte_of_writesFb hs hu hwrites hpush a

end

end Sys2Proof.Machine

namespace Sys2Proof.Claims

/-- Settles O13, by induction on the first list: its head leads to a state from which both sides run on. -/
theorem sequencesFoldTheStep : Obligations.SequencesFoldTheStep := by
  intro ops more
  induction ops with
  | nil => exact fun s => ⟨takePort [] s, rfl, rfl, rfl⟩
  | cons op ops ih =>
    intro s
    obtain ⟨u, hhead⟩ := afterOps_cons op s
    obtain ⟨t, hrun, hport, happend⟩ := ih u
    exact ⟨t, (hhead ops).trans hrun, hport, (hhead (ops ++ more)).trans happend⟩

/-- Settles O41: `exec_fb_flen_din_of_failed`. -/
theorem failedCommandsWriteNoFrameByte : Obligations.FailedCommandsWriteNoFrameByte := fun _ _ _ =>
  exec_fb_flen_din_of_failed

/-- Settles O48: the bytes of FB by `exec_again_fbByte`, the whole state by `exec_again_of_readsField`. -/
theorem repeatedCommandsAreIdempotent : Obligations.RepeatedCommandsAreIdempotent := fun _ _ _ _ hs hu =>
  ⟨exec_again_fbByte hs hu, exec_again_of_readsField hs hu⟩

end Sys2Proof.Claims
end

section
/-! SUPPORT. The words of the commands (30_encoding.md R70 to R76, R87, R88): a word is the join of its fields, so
`encode` and `decode` undo each other, two words are equal when their fields are, and a pattern with its mask is one
equation per field. -/

open Sys2Proof Sys2Proof.Machine Sys2Proof.Claims

namespace Sys2Proof.Machine

/-! ### A word is the join of its fields -/

theorem ofBool_eq_extractLsb' (w : CommandWord) (k : Nat) : BitVec.ofBool (w.getLsbD k) = w.extractLsb' k 1 := by
  ext j hj
  obtain rfl : j = 0 := by omega
  simp

theorem ofBool_inj {a b : Bool} : BitVec.ofBool a = BitVec.ofBool b ↔ a = b := by
  cases a <;> cases b <;> decide

theorem readOpcode_append_rest (w : CommandWord) : readOpcode w ++ w.extractLsb' 0 60 = w :=
  BitVec.extractLsb'_append_extractLsb' (w := 4) (len := 60) (x := w)

/-- The fields of format D (30_encoding.md R73) cover bits 59:0. -/
theorem writeFieldsD_readFieldsD (w : CommandWord) : writeFieldsD (readOpcode w) (readFieldsD w) = w := by
  have hrest : (readFieldsD w).rsvd ++ (readFieldsD w).imm = w.extractLsb' 0 60 :=
    BitVec.extractLsb'_append_extractLsb'_eq_extractLsb' rfl
  rw [writeFieldsD, hrest, readOpcode_append_rest]

/-- The fields of format X (30_encoding.md R72) cover bits 59:0. -/
theorem writeFieldsX_readFieldsX (w : CommandWord) : writeFieldsX (readOpcode w) (readFieldsX w) = w := by
  have join {start₂ start₁ len₁ len₂ : Nat} (h : start₂ = start₁ + len₁) :
      w.extractLsb' start₂ len₂ ++ w.extractLsb' start₁ len₁ = w.extractLsb' start₁ (len₂ + len₁) :=
    BitVec.extractLsb'_append_extractLsb'_eq_extractLsb' h
  simp only [writeFieldsX, readFieldsX, ofBool_eq_extractLsb']
  rw [join (start₂ := 31) rfl, join (start₂ := 32) rfl, join (start₂ := 36) rfl, join (start₂ := 37) rfl,
    join (start₂ := 43) rfl, join (start₂ := 49) rfl, join (start₂ := 52) rfl]
  exact readOpcode_append_rest w

theorem writeFieldsD_inj {o p : BitVec 4} {f g : FieldsD} : writeFieldsD o f = writeFieldsD p g ↔ o = p ∧ f = g := by
  cases f; cases g
  simp only [writeFieldsD, append_inj_iff (m := 4) (n := 60), append_inj_iff (m := 12) (n := 48), FieldsD.mk.injEq]

theorem writeFieldsX_inj {o p : BitVec 4} {f g : FieldsX} : writeFieldsX o f = writeFieldsX p g ↔ o = p ∧ f = g := by
  cases f; cases g
  simp only [writeFieldsX, append_inj_iff (m := 4) (n := 60), append_inj_iff (m := 8) (n := 52),
    append_inj_iff (m := 3) (n := 49), append_inj_iff (m := 6) (n := 43), append_inj_iff (m := 6) (n := 37),
    append_inj_iff (m := 1) (n := 36), append_inj_iff (m := 4) (n := 32), append_inj_iff (m := 1) (n := 31),
    ofBool_inj, FieldsX.mk.injEq]

@[simp] theorem readFieldsD_writeFieldsD (opc : BitVec 4) (f : FieldsD) : readFieldsD (writeFieldsD opc f) = f :=
  (writeFieldsD_inj.mp (writeFieldsD_readFieldsD (writeFieldsD opc f))).2

@[simp] theorem readFieldsX_writeFieldsX (opc : BitVec 4) (f : FieldsX) : readFieldsX (writeFieldsX opc f) = f :=
  (writeFieldsX_inj.mp (writeFieldsX_readFieldsX (writeFieldsX opc f))).2

theorem extractLsb'_rest (opc : BitVec 4) (rest : BitVec 60) : (opc ++ rest : CommandWord).extractLsb' 0 60 = rest :=
  (append_inj_iff.mp (readOpcode_append_rest (opc ++ rest))).2

/-! ### `encode` and `decode` undo each other -/

/-- The top four bits of a command's word are its opcode: the rows of `Laws.OpcodeField` together. -/
theorem readOpcode_encode (i : Instr) : readOpcode (encode i) = opcodeOf i := by
  cases i with
  | nop f | clr f | push f | ldin f => exact Laws.readOpcode_writeFieldsD _ f
  | dispatch f | slice f | unpack f | nsplit f | tdec f | insert f | pack f | npack f | tenc f | final f =>
    exact Laws.readOpcode_writeFieldsX _ f
  | reservedE r | reservedF r => exact Laws.readOpcode_append _ r

theorem decode_encode (i : Instr) : decode (encode i) = i := by
  rw [decode, readOpcode_encode]
  cases i with
  | nop f | clr f | push f | ldin f => simp [opcodeOf, encode]
  | dispatch f | slice f | unpack f | nsplit f | tdec f | insert f | pack f | npack f | tenc f | final f =>
    simp [opcodeOf, encode]
  | reservedE r | reservedF r => simp [opcodeOf, encode, extractLsb'_rest]

/-- A word is joined again from its own fields under the opcode it has, arm by arm of `decode`. -/
theorem encode_decode (w : CommandWord) : encode (decode w) = w := by
  have formatD {opc : BitVec 4} (h : readOpcode w = opc) : writeFieldsD opc (readFieldsD w) = w :=
    h ▸ writeFieldsD_readFieldsD w
  have formatX {opc : BitVec 4} (h : readOpcode w = opc) : writeFieldsX opc (readFieldsX w) = w :=
    h ▸ writeFieldsX_readFieldsX w
  have reserved {opc : BitVec 4} (h : readOpcode w = opc) : opc ++ w.extractLsb' 0 60 = w :=
    h ▸ readOpcode_append_rest w
  have hlt : (readOpcode w).toNat < 16 := (readOpcode w).isLt
  unfold decode
  split
  case h_1 h | h_2 h | h_3 h | h_4 h => exact formatD (BitVec.eq_of_toNat_eq h)
  case h_5 h | h_6 h | h_7 h | h_8 h | h_9 h | h_10 h | h_11 h | h_12 h | h_13 h | h_14 h =>
    exact formatX (BitVec.eq_of_toNat_eq h)
  case h_15 h => exact reserved (BitVec.eq_of_toNat_eq h)
  case h_16 =>
    simp only [imp_false] at *
    have h : (readOpcode w).toNat = 15 := by omega
    exact reserved (BitVec.eq_of_toNat_eq h)

/-! ### The opcode of a word -/

theorem opcodeOf_decode (w : CommandWord) : opcodeOf (decode w) = readOpcode w := by
  rw [← readOpcode_encode, encode_decode]

theorem readOpcode_toNat (w : CommandWord) : (readOpcode w).toNat = w.toNat / 2 ^ 60 := by
  have := w.isLt
  rw [readOpcode, BitVec.extractLsb'_toNat, Nat.shiftRight_eq_div_pow, Nat.mod_eq_of_lt (by omega)]

/-- The reserved opcodes are 0xE and 0xF (30_encoding.md R75). -/
theorem isReserved_iff (i : Instr) : i.isReserved = true ↔ 14 ≤ (opcodeOf i).toNat := by
  cases i <;> simp [Instr.isReserved, opcodeOf]

theorem isReserved_decode_iff (w : CommandWord) : (decode w).isReserved = true ↔ 14 ≤ w.toNat / 2 ^ 60 := by
  rw [isReserved_iff, opcodeOf_decode, readOpcode_toNat]

theorem legal_decode_iff (w : CommandWord) : (decode w).isReserved = false ↔ w.toNat / 2 ^ 60 < 14 := by
  rw [← Nat.not_le, ← isReserved_decode_iff, Bool.not_eq_true]

/-! ### The rows of 30_encoding.md R76 as equations on the fields -/

theorem eq_zeroD_iff (f : FieldsD) : f = zeroD ↔ f.rsvd = 0 ∧ f.imm = 0 := by
  cases f; simp [zeroD]

theorem eq_zeroX_iff (f : FieldsX) :
    f = zeroX ↔ f.off = 0 ∧ f.nb = 0 ∧ f.lsb = 0 ∧ f.wid = 0 ∧ f.abs = false ∧ f.dsel = 0 ∧ f.t = false ∧
      f.rsv = 0 := by
  cases f; simp [zeroX]

theorem allZeroD_iff (f : FieldsD) : allZeroD f = true ↔ f = zeroD := by
  simp [allZeroD, eq_zeroD_iff]

theorem allZeroX_iff (f : FieldsX) : allZeroX f = true ↔ f = zeroX := by
  simp [allZeroX, noBitField, eq_zeroX_iff, and_assoc]

theorem rowSlice_iff (f : FieldsX) : rowSlice f = true ↔ sliceRow f := by
  simp [rowSlice, sliceRow, windowCount, bitFieldFits, and_assoc]

theorem rowInsert_iff (f : FieldsX) : rowInsert f = true ↔ insertRow f := by
  simp [rowInsert, insertRow, sliceRow, windowCount, bitFieldFits, and_assoc]
  tauto

theorem rowUnpack_iff (f : FieldsX) : rowUnpack f = true ↔ unpackRow f := by
  simp [rowUnpack, unpackRow, windowCount, noBitField, and_assoc, Option.isSome_iff_ne_none]

theorem rowPack_iff (f : FieldsX) : rowPack f = true ↔ packRow f := by
  simp [rowPack, packRow, windowCount, noBitField, and_assoc]

theorem tailOffset_iff (f : FieldsX) : tailOffset f = true ↔ (f.t = true → f.off = 0) := by
  cases h : f.t <;> simp [tailOffset, h]

theorem rowNsplit_iff (f : FieldsX) : rowNsplit f = true ↔ nsplitRow f := by
  simp only [rowNsplit, nsplitRow, noBitField, Bool.and_eq_true, decide_eq_true_eq, tailOffset_iff]
  tauto

theorem rowNpack_iff (f : FieldsX) : rowNpack f = true ↔ npackRow f := by
  simp only [rowNpack, npackRow, nsplitRow, noBitField, Bool.and_eq_true, decide_eq_true_eq, tailOffset_iff,
    Bool.not_eq_true']
  tauto

theorem rowTdec_iff (f : FieldsX) : rowTdec f = true ↔ tdecRow f := by
  simp [rowTdec, tdecRow, noBitField, and_assoc]

theorem rowTenc_iff (f : FieldsX) : rowTenc f = true ↔ tencRow f := by
  simp [rowTenc, tencRow, noBitField, and_assoc]

/-! ### A pattern with its mask, field by field -/

theorem eq_iff_fieldsD (w v : CommandWord) : w = v ↔ readOpcode w = readOpcode v ∧ readFieldsD w = readFieldsD v := by
  rw [← writeFieldsD_inj, writeFieldsD_readFieldsD, writeFieldsD_readFieldsD]

theorem eq_iff_fieldsX (w v : CommandWord) : w = v ↔ readOpcode w = readOpcode v ∧ readFieldsX w = readFieldsX v := by
  rw [← writeFieldsX_inj, writeFieldsX_readFieldsX, writeFieldsX_readFieldsX]

theorem readOpcode_and (w m : CommandWord) : readOpcode (w &&& m) = readOpcode w &&& readOpcode m :=
  BitVec.extractLsb'_and

/-- In format D (30_encoding.md R73). -/
theorem matchesPattern_writeFieldsD (opc : BitVec 4) (f : FieldsD) (m p : CommandWord) :
    matchesPattern (writeFieldsD opc f) m p ↔ opc &&& readOpcode m = readOpcode p ∧
      f.rsvd &&& (readFieldsD m).rsvd = (readFieldsD p).rsvd ∧ f.imm &&& (readFieldsD m).imm = (readFieldsD p).imm := by
  rw [matchesPattern, eq_iff_fieldsD, readOpcode_and, Laws.readOpcode_writeFieldsD]
  conv_rhs => rw [← readFieldsD_writeFieldsD opc f]
  simp only [readFieldsD, BitVec.extractLsb'_and, FieldsD.mk.injEq]

/-- In format X (30_encoding.md R72). -/
theorem matchesPattern_writeFieldsX (opc : BitVec 4) (f : FieldsX) (m p : CommandWord) :
    matchesPattern (writeFieldsX opc f) m p ↔ opc &&& readOpcode m = readOpcode p ∧
      f.off &&& (readFieldsX m).off = (readFieldsX p).off ∧ f.nb &&& (readFieldsX m).nb = (readFieldsX p).nb ∧
      f.lsb &&& (readFieldsX m).lsb = (readFieldsX p).lsb ∧ f.wid &&& (readFieldsX m).wid = (readFieldsX p).wid ∧
      (f.abs && (readFieldsX m).abs) = (readFieldsX p).abs ∧ f.dsel &&& (readFieldsX m).dsel = (readFieldsX p).dsel ∧
      (f.t && (readFieldsX m).t) = (readFieldsX p).t ∧ f.rsv &&& (readFieldsX m).rsv = (readFieldsX p).rsv := by
  rw [matchesPattern, eq_iff_fieldsX, readOpcode_and, Laws.readOpcode_writeFieldsX]
  conv_rhs => rw [← readFieldsX_writeFieldsX opc f]
  simp only [readFieldsX, BitVec.extractLsb'_and, BitVec.getLsbD_and, FieldsX.mk.injEq]

/-- The part of a mask on a field that the pattern fixes whole. -/
theorem and_eq_of_full {n : Nat} (x : BitVec n) {m : BitVec n} (h : m = BitVec.allOnes n) : x &&& m = x :=
  h ▸ BitVec.and_allOnes

/-- The mask of PUSH fixes IMM[47:8] (30_encoding.md R88). -/
theorem and_highBytes_eq_zero_iff (x : BitVec 48) : x &&& 0xFFFFFFFFFF00#48 = 0#48 ↔ x.extractLsb' 8 40 = 0#40 := by
  have hsplit : x.extractLsb' 8 40 ++ x.extractLsb' 0 8 = x :=
    BitVec.extractLsb'_append_extractLsb' (w := 40) (len := 8) (x := x)
  have hmask : 0xFFFFFFFFFF00#48 = BitVec.allOnes 40 ++ 0#8 := by decide
  have hzero : 0#48 = 0#40 ++ 0#8 := by decide
  conv_lhs => rw [← hsplit, hmask, hzero]
  rw [BitVec.and_append, append_inj_iff (m := 40) (n := 8), BitVec.and_allOnes]
  exact and_iff_left BitVec.and_zero

/-! ### The constraints on a word of format X -/

section
variable (opc : BitVec 4) (f : FieldsX)

theorem nbOf_writeFieldsX : nbOf (writeFieldsX opc f) = f.nb.toNat := by
  conv_rhs => rw [← readFieldsX_writeFieldsX opc f, readFieldsX, BitVec.extractLsb'_toNat, Nat.shiftRight_eq_div_pow]
  rfl

theorem lsbOf_writeFieldsX : lsbOf (writeFieldsX opc f) = f.lsb.toNat := by
  conv_rhs => rw [← readFieldsX_writeFieldsX opc f, readFieldsX, BitVec.extractLsb'_toNat, Nat.shiftRight_eq_div_pow]
  rfl

theorem widOf_writeFieldsX : widOf (writeFieldsX opc f) = f.wid.toNat := by
  conv_rhs => rw [← readFieldsX_writeFieldsX opc f, readFieldsX, BitVec.extractLsb'_toNat, Nat.shiftRight_eq_div_pow]
  rfl

theorem offset_writeFieldsX_eq_zero_iff : (writeFieldsX opc f).toNat / 0x10000000000000 % 256 = 0 ↔ f.off = 0 := by
  conv_rhs => rw [← readFieldsX_writeFieldsX opc f, readFieldsX, ← BitVec.toNat_inj, BitVec.extractLsb'_toNat,
    Nat.shiftRight_eq_div_pow]
  rfl

theorem selector_writeFieldsX : BitVec.ofNat 4 ((writeFieldsX opc f).toNat / 0x100000000) = f.dsel := by
  conv_rhs => rw [← readFieldsX_writeFieldsX opc f]
  simp only [readFieldsX, BitVec.extractLsb', Nat.shiftRight_eq_div_pow]

theorem tailBit_writeFieldsX : (writeFieldsX opc f).getLsbD 31 = f.t := by
  conv_rhs => rw [← readFieldsX_writeFieldsX opc f, readFieldsX]

theorem bitFieldInWindow_writeFieldsX :
    bitFieldInWindow (writeFieldsX opc f) ↔ (1 ≤ f.nb.toNat ∧ f.nb.toNat ≤ 6) ∧ (1 ≤ f.wid.toNat ∧ f.wid.toNat ≤ 48) ∧
      f.lsb.toNat + f.wid.toNat ≤ 8 * f.nb.toNat := by
  rw [bitFieldInWindow, nbOf_writeFieldsX, lsbOf_writeFieldsX, widOf_writeFieldsX]

end

theorem not_matchesPattern_writeFieldsD {opc : BitVec 4} {f : FieldsD} {m p : CommandWord}
    (hopc : opc &&& readOpcode m ≠ readOpcode p) : ¬ matchesPattern (writeFieldsD opc f) m p :=
  fun h => hopc ((matchesPattern_writeFieldsD opc f m p).mp h).1

theorem not_matchesPattern_writeFieldsX {opc : BitVec 4} {f : FieldsX} {m p : CommandWord}
    (hopc : opc &&& readOpcode m ≠ readOpcode p) : ¬ matchesPattern (writeFieldsX opc f) m p :=
  fun h => hopc ((matchesPattern_writeFieldsX opc f m p).mp h).1

/-- Thirteen of the fourteen patterns of 30_encoding.md R88 have another opcode than the command; the fourteenth,
read field by field, is the command's row of R76. -/
theorem spellsCommand_encode_iff {i : Instr} (legal : i.isReserved = false) :
    spellsCommand (encode i) ↔ i.wellFormed = true := by
  cases i with
  | nop f | clr f | push f | ldin f =>
    simp (disch := decide) only [spellsCommand, encode, not_matchesPattern_writeFieldsD, false_and, false_or, or_false]
    simp [matchesPattern_writeFieldsD, readOpcode, readFieldsD, and_eq_of_full, Instr.wellFormed, rowNop, rowClr,
      rowPush, rowLdin, allZeroD_iff, eq_zeroD_iff, and_highBytes_eq_zero_iff]
  | dispatch f | final f =>
    simp (disch := decide) only [spellsCommand, encode, not_matchesPattern_writeFieldsX, false_and, false_or, or_false]
    simp [matchesPattern_writeFieldsX, readOpcode, readFieldsX, and_eq_of_full, Instr.wellFormed, rowDispatch,
      rowFinal, allZeroX_iff, eq_zeroX_iff]
  | slice f | insert f =>
    simp (disch := decide) only [spellsCommand, encode, not_matchesPattern_writeFieldsX, false_and, false_or, or_false]
    simp [matchesPattern_writeFieldsX, readOpcode, readFieldsX, and_eq_of_full, Instr.wellFormed, rowSlice_iff,
      rowInsert_iff, insertRow, sliceRow, bitFieldInWindow_writeFieldsX]
    tauto
  | unpack f | pack f =>
    simp (disch := decide) only [spellsCommand, encode, not_matchesPattern_writeFieldsX, false_and, false_or, or_false]
    simp [matchesPattern_writeFieldsX, readOpcode, readFieldsX, and_eq_of_full, Instr.wellFormed, rowUnpack_iff,
      rowPack_iff, unpackRow, packRow, nbOf_writeFieldsX, selector_writeFieldsX]
    tauto
  | nsplit f | npack f =>
    simp (disch := decide) only [spellsCommand, encode, not_matchesPattern_writeFieldsX, false_and, false_or, or_false]
    simp [matchesPattern_writeFieldsX, readOpcode, readFieldsX, and_eq_of_full, Instr.wellFormed, rowNsplit_iff,
      rowNpack_iff, npackRow, nsplitRow, tailBit_writeFieldsX, offset_writeFieldsX_eq_zero_iff,
      -BitVec.getLsbD_eq_getElem]
    tauto
  | tdec f | tenc f =>
    simp (disch := decide) only [spellsCommand, encode, not_matchesPattern_writeFieldsX, false_and, false_or, or_false]
    simp [matchesPattern_writeFieldsX, readOpcode, readFieldsX, and_eq_of_full, Instr.wellFormed, rowTdec_iff,
      rowTenc_iff, tdecRow, tencRow]
  | reservedE r | reservedF r => cases legal

/-! ### A field outside its row -/

theorem controlCommand_of_illFormed {rowOk : Bool} (h : rowOk = false) (effect : State → State) (s : State) :
    controlCommand rowOk effect s = raise .badOperand s := by
  subst h; rfl

theorem readCommand_of_illFormed {rowOk : Bool} (h : rowOk = false) (absent inside : Bool)
    (clear latch : State → State) (s : State) :
    readCommand rowOk absent inside clear latch s = raise .badOperand s := by
  subst h; rfl

theorem writeCommand_of_illFormed {rowOk : Bool} (h : rowOk = false) (valueOk inside : Bool)
    (store : State → State) (s : State) : writeCommand rowOk valueOk inside store s = raise .badOperand s := by
  subst h; rfl

/-- The check of the word comes before every check that reads the state (60_exceptions.md R223). -/
theorem exec_of_illFormed {i : Instr} (s : State) (h : i.wellFormed = false) :
    exec i s = .next (raise .badOperand s) := by
  cases i with
  | nop f | clr f | ldin f => exact congrArg _ (controlCommand_of_illFormed h _ s)
  | slice f | unpack f | nsplit f | tdec f => exact congrArg _ (readCommand_of_illFormed h _ _ _ _ s)
  | insert f | pack f | npack f | tenc f | final f => exact congrArg _ (writeCommand_of_illFormed h _ _ _ s)
  | push f =>
    have hrow : rowPush f = false := h
    simp [exec, execPush, hrow]
  | dispatch f =>
    have hrow : rowDispatch f = false := h
    simp [exec, execDispatch, hrow]
  | reservedE r | reservedF r => cases h

end Sys2Proof.Machine

namespace Sys2Proof.Claims

/-- Settles O1: `decode_encode`. -/
theorem decodeOfEncodeIsTheInstruction : Obligations.DecodeOfEncodeIsTheInstruction := decode_encode

/-- Settles O2: `encode_decode`. -/
theorem encodeOfDecodeIsTheWord : Obligations.EncodeOfDecodeIsTheWord := encode_decode

/-- Settles O3, by the three cases of `classify`; its first test is the opcode's number. -/
theorem everyWordIsClassifiedOnce : Obligations.EveryWordIsClassifiedOnce := by
  intro w
  rw [← legal_decode_iff, ← isReserved_decode_iff]
  cases hres : (decode w).isReserved with
  | true => simp [classify, hres]
  | false =>
    cases hwf : (decode w).wellFormed with
    | true => simp +contextual [classify, hres, hwf]
    | false => simp +contextual [classify, hres, hwf]

/-- Settles O4: the word is the word of what it decodes to, so the pattern it fits is that command's own. -/
theorem wellFormedWordsAreTheEncodingPatterns : Obligations.WellFormedWordsAreTheEncodingPatterns := by
  intro w hlegal
  rw [← spellsCommand_encode_iff ((legal_decode_iff w).mpr hlegal), encode_decode]

/-- Settles O38: `exec_of_illFormed`. -/
theorem illFormedWordsWriteOnlyOpstat : Obligations.IllFormedWordsWriteOnlyOpstat := fun _ => exec_of_illFormed

/-- Settles O6, by evaluation of `decode` on each word. -/
theorem familyWordsDecodeAsWritten : Obligations.FamilyWordsDecodeAsWritten := by
  refine ⟨?_, ?_, ?_, ?_, ?_, ?_, ?_⟩ <;> decide

/-- Settles O33: the two reserved words are those of `encode`, and both meanings are `raise .illegalOp`. -/
theorem reservedOpcodesAreIllegal : Obligations.ReservedOpcodesAreIllegal := fun rest _ =>
  ⟨decode_encode (.reservedE rest), decode_encode (.reservedF rest), rfl, rfl⟩

end Sys2Proof.Claims
end

section
/-! SUPPORT. The assembler (30_encoding.md R84, R85, R86): a line is assembled to its command exactly when its operands
fit their fields, and the pseudo-instructions are lines that fit. -/

open Sys2Proof Sys2Proof.Machine Sys2Proof.Claims

namespace Sys2Proof.Machine

/-! ### One operand -/

theorem fits_toNat {n : Nat} (x : BitVec n) : fits n x.toNat :=
  ⟨Int.natCast_nonneg _, by exact_mod_cast x.isLt⟩

@[simp] theorem field_toNat {n : Nat} (x : BitVec n) : field n x.toNat = x := by
  rw [field, Int.toNat_natCast, BitVec.ofNat_toNat, BitVec.setWidth_eq]

theorem fitField_of_fits {n : Nat} {v : Int} (h : fits n v) : fitField n v = .ok (field n v) := by
  have hvalue : BitVec.ofInt n v = field n v := by
    rw [field, ← BitVec.ofInt_natCast, Int.toNat_of_nonneg h.1]
  exact (if_pos h).trans (congrArg _ hvalue)

theorem fitField_of_not_fits {n : Nat} {v : Int} (h : ¬ fits n v) : fitField n v = .error .doesNotFit :=
  if_neg h

/-- A number that fits a byte is the same number as a 48-bit immediate (30_encoding.md R82). -/
theorem field_setWidth {v : Int} (h : fits 8 v) : (field 8 v).setWidth 48 = field 48 v := by
  obtain ⟨hnonneg, hlt⟩ := h
  apply BitVec.eq_of_toNat_eq
  simp only [field, BitVec.toNat_setWidth, BitVec.toNat_ofNat]
  omega

/-- LDIN's operand: v mod 2^48 (30_encoding.md R84; log entry 13). -/
theorem fitLdin_of_fits {v : Int} (h : -(2 ^ 47) ≤ v ∧ v < 2 ^ 48) : fitLdin v = .ok (field 48 (v % 2 ^ 48)) := by
  rw [fitLdin, if_pos h]
  congr 1
  apply BitVec.eq_of_toNat_eq
  rw [field, BitVec.toNat_ofInt, BitVec.toNat_ofNat]
  omega

theorem fitLdin_of_not_fits {v : Int} (h : ¬ (-(2 ^ 47) ≤ v ∧ v < 2 ^ 48)) : fitLdin v = .error .doesNotFit :=
  if_neg h

/-! ### The operands of a line of format X -/

section
variable {off nb lsb wid : Int}

theorem fieldLine_of_fits (hoff : fits 8 off) (hnb : fits 3 nb) (hlsb : fits 6 lsb) (hwid : fits 6 wid) :
    fieldLine off nb lsb wid =
      .ok { zeroX with off := field 8 off, nb := field 3 nb, lsb := field 6 lsb, wid := field 6 wid } := by
  simp only [fieldLine, fitField_of_fits hoff, fitField_of_fits hnb, fitField_of_fits hlsb, fitField_of_fits hwid]
  rfl

/-- The first operand that does not fit refuses the line. -/
theorem fieldLine_of_not_fits (h : ¬ (fits 8 off ∧ fits 3 nb ∧ fits 6 lsb ∧ fits 6 wid)) :
    fieldLine off nb lsb wid = .error .doesNotFit := by
  by_cases hoff : fits 8 off
  swap
  · simp only [fieldLine, fitField_of_not_fits hoff]; rfl
  by_cases hnb : fits 3 nb
  swap
  · simp only [fieldLine, fitField_of_fits hoff, fitField_of_not_fits hnb]; rfl
  by_cases hlsb : fits 6 lsb
  swap
  · simp only [fieldLine, fitField_of_fits hoff, fitField_of_fits hnb, fitField_of_not_fits hlsb]; rfl
  have hwid : ¬ fits 6 wid := fun hwid => h ⟨hoff, hnb, hlsb, hwid⟩
  simp only [fieldLine, fitField_of_fits hoff, fitField_of_fits hnb, fitField_of_fits hlsb, fitField_of_not_fits hwid]
  rfl

theorem fits_zero (n : Nat) : fits n 0 := ⟨le_rfl, by positivity⟩

/-- A line without a bit field sets OFF and NB (30_encoding.md R84). -/
theorem windowLine_of_fits (h : fits 8 off ∧ fits 3 nb) :
    fieldLine off nb 0 0 = .ok { zeroX with off := field 8 off, nb := field 3 nb } :=
  fieldLine_of_fits h.1 h.2 (fits_zero 6) (fits_zero 6)

theorem windowLine_of_not_fits (h : ¬ (fits 8 off ∧ fits 3 nb)) : fieldLine off nb 0 0 = .error .doesNotFit :=
  fieldLine_of_not_fits fun ⟨hoff, hnb, _, _⟩ => h ⟨hoff, hnb⟩

end

/-- The counts of NSPLIT and NPACK, and of TDEC and TENC. -/
theorem fits_one : fits 3 1 := ⟨by decide, by decide⟩
theorem fits_two : fits 3 2 := ⟨by decide, by decide⟩

/-! ### A whole line -/

theorem assembleCore_of_lineFits (l : CoreLine) (h : lineFits l) : assembleCore l = .ok (lineCommand l) := by
  cases l with
  | nop | clr | dispatch | final | nsplitTail abs | npackTail => rfl
  | push b =>
    rw [lineCommand, ← field_setWidth h]
    simp only [assembleCore, fitField_of_fits h]
    rfl
  | ldin v => simp only [assembleCore, fitLdin_of_fits h]; rfl
  | slice abs off nb lsb wid | insert off nb lsb wid =>
    obtain ⟨hoff, hnb, hlsb, hwid⟩ := h
    simp only [assembleCore, fieldLine_of_fits hoff hnb hlsb hwid]
    rfl
  | unpack abs off nb dsel =>
    obtain ⟨hoff, hnb, hdsel⟩ := h
    simp only [assembleCore, windowLine_of_fits ⟨hoff, hnb⟩, fitField_of_fits hdsel]
    rfl
  | pack off nb => simp only [assembleCore, windowLine_of_fits h]; rfl
  | nsplit abs off | npack off => simp only [assembleCore, windowLine_of_fits ⟨h, fits_one⟩]; rfl
  | tdec abs off | tenc nz off => simp only [assembleCore, windowLine_of_fits ⟨h, fits_two⟩]; rfl

theorem assembleCore_of_not_lineFits (l : CoreLine) (h : ¬ lineFits l) : assembleCore l = .error .doesNotFit := by
  cases l with
  | nop | clr | dispatch | final | nsplitTail abs | npackTail => exact absurd trivial h
  | push b => simp only [assembleCore, fitField_of_not_fits h]; rfl
  | ldin v => simp only [assembleCore, fitLdin_of_not_fits h]; rfl
  | slice abs off nb lsb wid | insert off nb lsb wid => simp only [assembleCore, fieldLine_of_not_fits h]; rfl
  | unpack abs off nb dsel =>
    by_cases hwindow : fits 8 off ∧ fits 3 nb
    · have hdsel : ¬ fits 4 dsel := fun hdsel => h ⟨hwindow.1, hwindow.2, hdsel⟩
      simp only [assembleCore, windowLine_of_fits hwindow, fitField_of_not_fits hdsel]
      rfl
    · simp only [assembleCore, windowLine_of_not_fits hwindow]
      rfl
  | pack off nb => simp only [assembleCore, windowLine_of_not_fits h]; rfl
  | nsplit abs off | tdec abs off | npack off | tenc nz off =>
    simp only [assembleCore, windowLine_of_not_fits fun hwindow => h hwindow.1]
    rfl

/-! ### Operands read from bit vectors, which always fit -/

theorem assembleCore_push (b : Byte) :
    assembleCore (.push b.toNat) = .ok (.push { rsvd := 0, imm := b.setWidth 48 }) := by
  have hfits : fits 8 b.toNat := fits_toNat b
  refine Eq.trans (assembleCore_of_lineFits _ hfits) ?_
  rw [lineCommand, ← field_setWidth hfits, field_toNat]
  rfl

theorem assembleCore_ldin (v : BitVec 48) : assembleCore (.ldin v.toNat) = .ok (.ldin { rsvd := 0, imm := v }) := by
  obtain ⟨hnonneg, hlt⟩ := fits_toNat v
  refine Eq.trans (assembleCore_of_lineFits _ ⟨by omega, hlt⟩) ?_
  rw [lineCommand, Int.emod_eq_of_lt hnonneg hlt, field_toNat]
  rfl

theorem assembleCore_slice (off : BitVec 8) (nb : BitVec 3) (lsb wid : BitVec 6) :
    assembleCore (.slice false off.toNat nb.toNat lsb.toNat wid.toNat) =
      .ok (.slice { zeroX with off := off, nb := nb, lsb := lsb, wid := wid }) := by
  refine Eq.trans (assembleCore_of_lineFits _ ⟨fits_toNat off, fits_toNat nb, fits_toNat lsb, fits_toNat wid⟩) ?_
  simp only [lineCommand, field_toNat]
  rfl

theorem assembleCore_insert (off : BitVec 8) (nb : BitVec 3) (lsb wid : BitVec 6) :
    assembleCore (.insert off.toNat nb.toNat lsb.toNat wid.toNat) =
      .ok (.insert { zeroX with off := off, nb := nb, lsb := lsb, wid := wid }) := by
  refine Eq.trans (assembleCore_of_lineFits _ ⟨fits_toNat off, fits_toNat nb, fits_toNat lsb, fits_toNat wid⟩) ?_
  simp only [lineCommand, field_toNat]

theorem assembleCore_pack (off : BitVec 8) (nb : BitVec 3) :
    assembleCore (.pack off.toNat nb.toNat) = .ok (.pack { zeroX with off := off, nb := nb }) := by
  refine Eq.trans (assembleCore_of_lineFits _ ⟨fits_toNat off, fits_toNat nb⟩) ?_
  simp only [lineCommand, field_toNat]

/-! ### Several lines -/

theorem assembleLines_cons {l : CoreLine} {ls : List CoreLine} {i : Instr} {ws : List CommandWord}
    (hhead : assembleCore l = .ok i) (htail : assembleLines ls = .ok ws) :
    assembleLines (l :: ls) = .ok (encode i :: ws) := by
  simp only [assembleLines, hhead, htail]
  rfl

theorem assembleLines_singleton {l : CoreLine} {i : Instr} (h : assembleCore l = .ok i) :
    assembleLines [l] = .ok [encode i] :=
  assembleLines_cons h rfl

/-- The pseudo-instruction LOADFRAME (30_encoding.md R85): CLR, then one PUSH per byte. -/
theorem assembleLines_loadframe (bytes : List Byte) :
    assembleLines (expandPseudo (.loadframe (bytes.map fun b => (b.toNat : Int)))) =
      .ok (encode (.clr zeroD) :: bytes.map fun b => encode (.push { rsvd := 0, imm := b.setWidth 48 })) := by
  refine assembleLines_cons rfl ?_
  induction bytes with
  | nil => rfl
  | cons b bytes ih => exact assembleLines_cons (assembleCore_push b) ih

/-- NEWFRAME n is the LOADFRAME of n bytes 0 (30_encoding.md R85). -/
theorem expandPseudo_newframe (n : Nat) :
    expandPseudo (.newframe n) =
      expandPseudo (.loadframe ((List.replicate n (0 : Byte)).map fun b => (b.toNat : Int))) := by
  simp [expandPseudo]

end Sys2Proof.Machine

namespace Sys2Proof.Claims

/-- Settles O58: the lines by `assembleCore_of_lineFits` and `assembleCore_of_not_lineFits`, the spellings by
evaluation of `readLineCommand`. -/
theorem assemblerRefusesWhatDoesNotFit : Obligations.AssemblerRefusesWhatDoesNotFit :=
  ⟨fun l => ⟨assembleCore_of_lineFits l, assembleCore_of_not_lineFits l⟩,
    ⟨rfl, rfl, rfl, rfl, rfl, rfl, rfl⟩, fun _ => ⟨rfl, rfl, rfl, rfl, rfl, rfl, rfl, rfl, rfl⟩,
    fun _ _ _ _ => ⟨rfl, rfl, rfl, rfl, rfl, rfl, rfl, rfl⟩⟩

/-- Settles O57: each expansion line by line; its constants are read from bit vectors too, and NEWFRAME is a
LOADFRAME. -/
theorem pseudoInstructionsExpand : Obligations.PseudoInstructionsExpand := by
  refine ⟨fun off n => ⟨?rdb, ?bit, ?hinib, ?lonib⟩, fun off nb lsb wid v => ⟨?wrb, ?zero, ?setf⟩,
    assembleLines_loadframe, fun n => ?newframe⟩
  case rdb => exact assembleLines_singleton (assembleCore_slice off 1 0 8)
  case bit => exact assembleLines_singleton (assembleCore_slice off 1 n 1)
  case hinib => exact assembleLines_singleton (assembleCore_slice off 1 4 4)
  case lonib => exact assembleLines_singleton (assembleCore_slice off 1 0 4)
  case wrb => exact assembleLines_cons (assembleCore_ldin v) (assembleLines_singleton (assembleCore_pack off 1))
  case zero => exact assembleLines_cons (assembleCore_ldin 0) (assembleLines_singleton (assembleCore_pack off nb))
  case setf =>
    exact assembleLines_cons (assembleCore_ldin v) (assembleLines_singleton (assembleCore_insert off nb lsb wid))
  case newframe =>
    rw [expandPseudo_newframe, assembleLines_loadframe, List.map_replicate]
    rfl

/-- Settles O5, by evaluation of the assembler on each text. -/
theorem workedEncodings : Obligations.WorkedEncodings := by
  refine ⟨?_, ?_, ?_, ?_, ?_, ?_⟩ <;> decide

end Sys2Proof.Claims
end

section
/-! SUPPORT. The control commands (40_frame.md R100 to R106): how each shared shape ends when its checks pass, PUSH
branch by branch, and what a load leaves: every byte of the frame is one that a PUSH wrote, so the draws between the
commands (10_state.md R43) do not show in it. -/

open Sys2Proof Sys2Proof.Machine Sys2Proof.Claims

namespace Sys2Proof.Machine

/-! ### A field within its row -/

theorem controlCommand_of_row {rowOk : Bool} (h : rowOk = true) (effect : State → State) (s : State) :
    controlCommand rowOk effect s = succeed (effect s) := by
  subst h; rfl

theorem writeCommand_of_inside {rowOk valueOk inside : Bool} (hrow : rowOk = true) (hvalue : valueOk = true)
    (hinside : inside = true) (store : State → State) (s : State) :
    writeCommand rowOk valueOk inside store s = succeed (voidVerdict (store s)) := by
  subst hrow hvalue hinside; rfl

theorem writeCommand_of_outside {rowOk valueOk inside : Bool} (hrow : rowOk = true) (hvalue : valueOk = true)
    (hinside : inside = false) (store : State → State) (s : State) :
    writeCommand rowOk valueOk inside store s = raise .truncated s := by
  subst hrow hvalue hinside; rfl

theorem allZeroD_eq_false {f : FieldsD} (h : f ≠ zeroD) : allZeroD f = false :=
  Bool.eq_false_iff.mpr (mt (allZeroD_iff f).mp h)

theorem allZeroX_eq_false {f : FieldsX} (h : f ≠ zeroX) : allZeroX f = false :=
  Bool.eq_false_iff.mpr (mt (allZeroX_iff f).mp h)

/-- Row LDIN of 30_encoding.md R76. -/
theorem rowLdin_iff (f : FieldsD) : rowLdin f = true ↔ f.rsvd = 0 := decide_eq_true_iff

/-! ### PUSH (40_frame.md R103) -/

/-- Bits 47:8 are clear exactly in the numbers of one byte. -/
theorem highBytes_eq_zero_iff (x : BitVec 48) : x.extractLsb' 8 40 = 0 ↔ x.toNat < 256 := by
  have hx := x.isLt
  rw [← BitVec.toNat_inj, BitVec.extractLsb'_toNat, Nat.shiftRight_eq_div_pow]
  change x.toNat / 2 ^ 8 % 2 ^ 40 = 0 ↔ x.toNat < 256
  omega

/-- Row PUSH of 30_encoding.md R76. -/
theorem rowPush_iff (f : FieldsD) : rowPush f = true ↔ f.rsvd = 0 ∧ f.imm.toNat < 256 := by
  rw [rowPush, Bool.and_eq_true, decide_eq_true_iff, decide_eq_true_iff, highBytes_eq_zero_iff]

theorem pushByte_eq_ofNat (f : FieldsD) : pushByte f = BitVec.ofNat 8 f.imm.toNat := by
  apply BitVec.eq_of_toNat_eq
  rw [pushByte, BitVec.extractLsb'_toNat, Nat.shiftRight_zero, BitVec.toNat_ofNat]

theorem pushByte_setWidth (b : Byte) : pushByte { rsvd := 0, imm := b.setWidth 48 } = b := by
  rw [pushByte_eq_ofNat, BitVec.toNat_setWidth_of_le (by omega), BitVec.ofNat_toNat, BitVec.setWidth_eq]

theorem exec_push_of_room {f : FieldsD} {s : State} (row : rowPush f = true) (room : s.flen.val < 256) :
    exec (.push f) s = .next (succeed (voidVerdict (appendByte (pushByte f) s))) := by
  simp [exec, execPush, row, room.ne]

theorem exec_push_of_full {f : FieldsD} {s : State} (row : rowPush f = true) (full : s.flen.val = 256) :
    exec (.push f) s = .next (raise .overflow (voidVerdict (setOverflow s))) := by
  simp [exec, execPush, row, full]

/-! ### FINAL (40_frame.md R105) -/

/-- FLEN − 1 fits a byte, for FLEN is at most 256 (10_state.md R22). -/
theorem lengthByte_toNat_add_one {s : State} (h : 1 ≤ s.flen.val) : (lengthByte s).toNat + 1 = s.flen.val := by
  have hlen := s.flen.isLt
  rw [lengthByte, BitVec.toNat_ofNat]
  omega

theorem exec_final_of_frame {f : FieldsX} {s : State} (row : rowFinal f = true) (h : 1 ≤ s.flen.val) :
    exec (.final f) s = .next (succeed (voidVerdict (s.setByte 0 (lengthByte s)))) :=
  have hinside : insideFrame s 0 1 = true := (insideFrame_iff s 0 1).mpr (by omega)
  congrArg Host.Outcome.next (writeCommand_of_inside row rfl hinside _ s)

theorem exec_final_of_empty {f : FieldsX} {s : State} (row : rowFinal f = true) (h : s.flen.val = 0) :
    exec (.final f) s = .next (raise .truncated s) :=
  have houtside : insideFrame s 0 1 = false := decide_eq_false (by omega)
  congrArg Host.Outcome.next (writeCommand_of_outside row rfl houtside _ s)

/-! ### A load: CLR and one PUSH per byte (40_frame.md R106) -/

/-- A command at the head of the host's list runs, and the bytes outside the frame are drawn afresh. -/
theorem afterOps_cmd {i : Instr} {s t : State} (h : exec i s = .next t) (ops : List PortOp) :
    afterOps (.cmd (encode i) :: ops) s = afterOps ops (freshDraw t) := by
  refine run_succ_of_step (s := takePort (.cmd (encode i) :: ops) s) (t := takePort ops (freshDraw t)) _ ?_
  have hrun : exec i (takePort ops (takePort (.cmd (encode i) :: ops) s)) = .next (takePort ops t) :=
    exec_takePort (s := s) ops h
  rw [step_of_port_cmd (takePort_port _ s), decode_encode, hrun]
  rfl

/-- The host's word that pushes one byte. -/
def pushOp (b : Byte) : PortOp := .cmd (encode (.push { rsvd := 0, imm := b.setWidth 48 }))

/-- The frame is these bytes, each written by a command, and the last command loaded it without a failure. -/
structure Loaded (bytes : List Byte) (s : State) : Prop where
  length : s.flen.val = bytes.length
  written : ∀ a, a < bytes.length → Memory.lookup s.fb a = bytes[a]?
  succeeded : s.opstat = .ok
  noOverflow : s.ovf = false

theorem loaded_nil_of_clr (s : State) : Loaded [] (freshDraw (succeed (clearRegisters s))) where
  length := rfl
  written := nofun
  succeeded := rfl
  noOverflow := rfl

/-- A PUSH with room appends its byte to a loaded frame. -/
theorem Loaded.push {bytes : List Byte} {s : State} (h : Loaded bytes s) (b : Byte) (room : bytes.length < 256) :
    Loaded (bytes ++ [b]) (freshDraw (succeed (voidVerdict (appendByte b s)))) where
  length := by
    have hroom : s.flen.val < 256 := h.length ▸ room
    simp [nextLength_val hroom, h.length]
  written := fun a ha => by
    simp only [freshDraw_fb, succeed_fb, voidVerdict_fb, appendByte_fb, Memory.lookup_write, h.length]
    split
    case isTrue hlast => simp [hlast]
    case isFalse hlast =>
      have hold : a < bytes.length := by simp at ha; omega
      rw [h.written a hold, List.getElem?_append_left hold]
  succeeded := rfl
  noOverflow := h.noOverflow

/-- One PUSH per byte, on a frame already loaded in part: the bytes follow those already there. -/
theorem afterOps_pushes {loaded bytes : List Byte} {s : State} (h : Loaded loaded s)
    (room : loaded.length + bytes.length ≤ 256) :
    ∃ t, Loaded (loaded ++ bytes) t ∧ ∀ ops, afterOps (bytes.map pushOp ++ ops) s = afterOps ops t := by
  induction bytes generalizing loaded s with
  | nil => exact ⟨s, by rwa [List.append_nil], fun _ => rfl⟩
  | cons b bytes ih =>
    rw [List.length_cons] at room
    have hroom : loaded.length < 256 := by omega
    obtain ⟨t, ht, hrun⟩ := ih (h.push b hroom) (by simp; omega)
    refine ⟨t, by rwa [List.append_assoc] at ht, fun ops => ?_⟩
    have hpush := exec_push_of_room (rowPush_of_byte b) (h.length ▸ hroom)
    rw [pushByte_setWidth] at hpush
    exact (afterOps_cmd hpush _).trans (hrun ops)

/-- From any state the load leaves exactly its bytes as the frame, whatever the host does after it. -/
theorem afterOps_load {bytes : List Byte} (s : State) (room : bytes.length ≤ 256) :
    ∃ t, Loaded bytes t ∧
      ∀ ops, afterOps (.cmd (encode (.clr zeroD)) :: (bytes.map pushOp ++ ops)) s = afterOps ops t := by
  obtain ⟨t, ht, hrun⟩ := afterOps_pushes (loaded_nil_of_clr s) (by simpa using room)
  have hclr : exec (.clr zeroD) s = .next (succeed (clearRegisters s)) := rfl
  exact ⟨t, ht, fun ops => (afterOps_cmd hclr _).trans (hrun ops)⟩

theorem Loaded.takePort {bytes : List Byte} {s : State} (h : Loaded bytes s) (ops : List PortOp) :
    Loaded bytes (Machine.takePort ops s) := { h with }

theorem Loaded.fbByte {bytes : List Byte} {s : State} (h : Loaded bytes s) {a : Nat} (ha : a < bytes.length) :
    s.fbByte a = bytes[a] := by
  simp [State.fbByte, h.written a ha, ha]

theorem Loaded.frameBytes {bytes : List Byte} {s : State} (h : Loaded bytes s) : Machine.frameBytes s = bytes := by
  refine List.ext_getElem (by simp [Machine.frameBytes, h.length]) fun a _ ha => ?_
  simp [Machine.frameBytes, h.fbByte ha]

end Sys2Proof.Machine

namespace Sys2Proof.Claims

/-- Settles O20: the three ends of PUSH. -/
theorem pushRule : Obligations.PushRule := by
  refine fun f s => ⟨fun hrsvd hbyte room => ?append, fun hrsvd hbyte full => ?overflow, fun hrow => ?badOperand⟩
  case append =>
    refine ⟨_, exec_push_of_room ((rowPush_iff f).mpr ⟨hrsvd, hbyte⟩) room, nextLength_val room, rfl, fun a => ?_⟩
    rw [succeed_fbByte, voidVerdict_fbByte, appendByte_fbByte, pushByte_eq_ofNat]
  case overflow => exact exec_push_of_full ((rowPush_iff f).mpr ⟨hrsvd, hbyte⟩) full
  case badOperand =>
    have hrow' : rowPush f = false := by
      rw [Bool.eq_false_iff, ne_eq, rowPush_iff]
      exact fun h => hrow.elim (absurd h.1) (Nat.not_le_of_lt h.2)
    exact exec_of_illFormed s hrow'

/-- Settles O22: the store of `lengthByte` at 0, TRUNCATED on the empty frame, BAD_OPERAND for the word. -/
theorem finalRule : Obligations.FinalRule := by
  refine fun f s => ⟨fun hzero hlen => ?store, fun hzero hempty => ?truncated, fun hne => ?badOperand⟩
  case store =>
    refine ⟨_, exec_final_of_frame ((allZeroX_iff f).mpr hzero) hlen, rfl, ?_, fun a ha => ?_⟩
    · rw [succeed_fbByte, voidVerdict_fbByte, setByte_fbByte, if_pos rfl]
      exact lengthByte_toNat_add_one hlen
    · rw [succeed_fbByte, voidVerdict_fbByte, setByte_fbByte, if_neg ha]
  case truncated => exact exec_final_of_empty ((allZeroX_iff f).mpr hzero) hempty
  case badOperand => exact exec_of_illFormed s (allZeroX_eq_false hne)

/-- Settles O52: `afterOps_load` with nothing after it. -/
theorem loadedBufferIsTheFrame : Obligations.LoadedBufferIsTheFrame := by
  intro bytes s room
  obtain ⟨t, ht, hrun⟩ := afterOps_load s room
  have hload := hrun []
  rw [List.append_nil] at hload
  have hend := ht.takePort []
  exact ⟨takePort [] t, hload, hend.succeeded, hend.noOverflow, hend.frameBytes⟩

/-- Settles O17: the control command whose effect is the identity. -/
theorem nopRule : Obligations.NopRule := fun f s =>
  ⟨fun hzero => congrArg _ (controlCommand_of_row ((allZeroD_iff f).mpr hzero) id s),
    fun hne => exec_of_illFormed s (allZeroD_eq_false hne)⟩

/-- Settles O18: the control command whose effect is `clearRegisters`, which is the Reset column. -/
theorem clrRule : Obligations.ClrRule := fun f s =>
  ⟨fun hzero => congrArg _ (controlCommand_of_row ((allZeroD_iff f).mpr hzero) clearRegisters s),
    fun hne => exec_of_illFormed s (allZeroD_eq_false hne)⟩

/-- Settles O21: the control command whose effect is `loadDin`. -/
theorem ldinRule : Obligations.LdinRule := fun f s =>
  ⟨fun hrsvd => congrArg _ (controlCommand_of_row ((rowLdin_iff f).mpr hrsvd) (loadDin f.imm) s),
    fun hne => exec_of_illFormed s (Bool.eq_false_iff.mpr (mt (rowLdin_iff f).mp hne))⟩

end Sys2Proof.Claims
end

section
/-! SUPPORT. The temperature commands (41_temperature.md): sign and magnitude of the two bytes as numbers, in both
directions; TDEC and TENC end by end; and what a host reads out after TDEC. Byte pairs and pairs of a number with NZ
stand for each other one to one, which is the round trip of R124. -/

open Sys2Proof Sys2Proof.Machine Sys2Proof.Claims

namespace Sys2Proof.Machine

/-! ### How a reading command ends, and a writing command whose value does not fit -/

section
variable {rowOk absent inside : Bool} (hrow : rowOk = true) (clear latch : State → State) (s : State)
include hrow

theorem readCommand_of_absent (habs : absent = true) :
    readCommand rowOk absent inside clear latch s = raise .absent (clear s) := by
  subst hrow habs; rfl

theorem readCommand_of_outside (habs : absent = false) (hinside : inside = false) :
    readCommand rowOk absent inside clear latch s = raise .truncated (voidVerdict (clear s)) := by
  subst hrow habs hinside; rfl

theorem readCommand_of_inside (habs : absent = false) (hinside : inside = true) :
    readCommand rowOk absent inside clear latch s = succeed (latch s) := by
  subst hrow habs hinside; rfl

end

theorem writeCommand_of_badValue {rowOk valueOk : Bool} (hrow : rowOk = true) (hvalue : valueOk = false)
    (inside : Bool) (store : State → State) (s : State) :
    writeCommand rowOk valueOk inside store s = raise .badOperand s := by
  subst hrow hvalue; rfl

/-! ### Sign, magnitude and the two bytes as numbers (41_temperature.md R121, R123) -/

theorem tempSign_eq (hi : Byte) : tempSign hi = decide (128 ≤ hi.toNat) :=
  BitVec.msb_eq_decide hi

/-- Masking bit 7 and shifting over the low byte is the number whose base-256 digits are the two bytes. -/
theorem tempMagnitude_toNat (hi lo : Byte) :
    (tempMagnitude hi lo).toNat = hi.toNat % 128 * 256 + lo.toNat := by
  have hlo : lo.toNat < 2 ^ 8 := lo.isLt
  have hmask : (hi &&& 0x7F).toNat = hi.toNat % 128 := Nat.and_two_pow_sub_one_eq_mod hi.toNat 7
  calc (tempMagnitude hi lo).toNat
    _ = (hi.toNat % 128) <<< 8 ||| lo.toNat := by
      rw [tempMagnitude, BitVec.toNat_or, BitVec.toNat_shiftLeft, BitVec.toNat_setWidth_of_le (by omega),
        BitVec.toNat_setWidth_of_le (by omega), hmask, Nat.mod_eq_of_lt (by omega)]
    _ = (hi.toNat % 128) <<< 8 + lo.toNat := (Nat.shiftLeft_add_eq_or_of_lt hlo _).symm
    _ = hi.toNat % 128 * 256 + lo.toNat := by rw [Nat.shiftLeft_eq]

theorem tempEncodable_iff (v : Int) (nz : Bool) :
    tempEncodable v nz = true ↔ -32767 ≤ v ∧ v ≤ 32767 ∧ (nz = true → v = 0) := by
  cases nz <;> simp [tempEncodable, and_assoc]

theorem tempHighByte_toNat {v : Int} (hlow : -32767 ≤ v) (hhigh : v ≤ 32767) (nz : Bool) :
    (tempHighByte v nz).toNat = (if v < 0 ∨ nz = true then 128 else 0) + v.natAbs / 256 := by
  have hbits : v.natAbs / 256 < 2 ^ 7 := by omega
  simp only [tempHighByte, Nat.shiftRight_eq_div_pow, Bool.or_eq_true, decide_eq_true_eq, BitVec.toNat_ofNat,
    ← Nat.shiftLeft_add_eq_or_of_lt hbits]
  split <;> exact Nat.mod_eq_of_lt (by omega)

theorem tempLowByte_toNat (v : Int) : (tempLowByte v).toNat = v.natAbs % 256 := by
  rw [tempLowByte, BitVec.toNat_ofNat, show (0xFF : Nat) = 2 ^ 8 - 1 from rfl, Nat.and_two_pow_sub_one_eq_mod,
    Nat.mod_mod]

/-! ### The two conversions undo each other (41_temperature.md R124) -/

section
variable (hi lo : Byte)

/-- The number TDEC decodes, by the sign bit of the high byte. -/
theorem tempValue_decoded :
    (tempValue (tempSign hi) (tempMagnitude hi lo)).toInt =
      if 128 ≤ hi.toNat then -((hi.toNat % 128 * 256 + lo.toNat : Nat) : Int)
      else ((hi.toNat % 128 * 256 + lo.toNat : Nat) : Int) := by
  simp only [tempValue_toInt, tempMagnitude_toNat, tempSign_eq, decide_eq_true_eq]

/-- Negative zero is the byte pair 0x80 0x00 (41_temperature.md R125). -/
theorem negativeZero_iff :
    tempSign hi = true ∧ tempMagnitude hi lo = 0 ↔ hi.toNat = 128 ∧ lo.toNat = 0 := by
  have hhi := hi.isLt
  rw [tempSign_eq, decide_eq_true_iff, ← BitVec.toNat_inj, tempMagnitude_toNat]
  change 128 ≤ hi.toNat ∧ hi.toNat % 128 * 256 + lo.toNat = 0 ↔ _
  omega

theorem tempEncodable_decoded :
    tempEncodable (tempValue (tempSign hi) (tempMagnitude hi lo)).toInt
      (tempSign hi && decide (tempMagnitude hi lo = 0)) = true := by
  have hlo := lo.isLt
  rw [tempEncodable_iff, Bool.and_eq_true, decide_eq_true_iff, negativeZero_iff, tempValue_decoded]
  split <;> omega

theorem tempHighByte_decoded :
    tempHighByte (tempValue (tempSign hi) (tempMagnitude hi lo)).toInt
      (tempSign hi && decide (tempMagnitude hi lo = 0)) = hi := by
  have hhi := hi.isLt
  have hlo := lo.isLt
  obtain ⟨hlow, hhigh, -⟩ := (tempEncodable_iff _ _).mp (tempEncodable_decoded hi lo)
  apply BitVec.eq_of_toNat_eq
  rw [tempHighByte_toNat hlow hhigh]
  simp only [Bool.and_eq_true, decide_eq_true_iff, negativeZero_iff, tempValue_decoded]
  split_ifs <;> omega

theorem tempLowByte_decoded : tempLowByte (tempValue (tempSign hi) (tempMagnitude hi lo)).toInt = lo := by
  have hlo := lo.isLt
  apply BitVec.eq_of_toNat_eq
  rw [tempLowByte_toNat, tempValue_decoded]
  split <;> omega

end

section
variable {v : Int} (hlow : -32767 ≤ v) (hhigh : v ≤ 32767) (nz : Bool)
include hlow hhigh

theorem tempSign_encoded : tempSign (tempHighByte v nz) = (decide (v < 0) || nz) := by
  rw [tempSign_eq, tempHighByte_toNat hlow hhigh, Bool.eq_iff_iff, decide_eq_true_iff, Bool.or_eq_true,
    decide_eq_true_iff]
  split
  case isTrue hneg => exact iff_of_true (by omega) hneg
  case isFalse hpos => exact iff_of_false (by omega) hpos

theorem tempMagnitude_encoded : (tempMagnitude (tempHighByte v nz) (tempLowByte v)).toNat = v.natAbs := by
  rw [tempMagnitude_toNat, tempHighByte_toNat hlow hhigh, tempLowByte_toNat]
  split <;> omega

/-- TEMP is the value encoded: its sign is the sign bit, but for negative zero, where either sign reads 0. -/
theorem tempValue_encoded (hzero : nz = true → v = 0) :
    (tempValue (tempSign (tempHighByte v nz)) (tempMagnitude (tempHighByte v nz) (tempLowByte v))).toInt = v := by
  simp only [tempValue_toInt, tempMagnitude_encoded hlow hhigh, tempSign_encoded hlow hhigh, Bool.or_eq_true,
    decide_eq_true_iff]
  split
  case isTrue hneg =>
    have hle : v ≤ 0 := hneg.elim le_of_lt fun h => (hzero h).le
    omega
  case isFalse hpos =>
    have hge : 0 ≤ v := not_lt.mp fun h => hpos (.inl h)
    omega

end

/-- The host's `sext_16(TEMP)` in DIN is the number in TEMP. -/
theorem toInt_ofInt_toInt (x : BitVec 16) : (BitVec.ofInt 48 x.toInt).toInt = x.toInt := by
  have hle := BitVec.le_toInt x
  have hlt := BitVec.toInt_lt (x := x)
  exact BitVec.toInt_ofInt_eq_self (by omega) (by omega) (by omega)

/-! ### TDEC and TENC, end by end -/

theorem exec_ldin_of_row {f : FieldsD} {s : State} (row : rowLdin f = true) :
    exec (.ldin f) s = .next (succeed (loadDin f.imm s)) :=
  congrArg Host.Outcome.next (controlCommand_of_row row _ s)

section
variable {f : FieldsX} {s : State}

theorem exec_tdec_of_inside (row : rowTdec f = true) (habs : f.abs = false)
    (hframe : f.off.toNat + 2 ≤ s.flen.val) :
    exec (.tdec f) s =
      .next (succeed (latchTemperature (s.fbByte f.off.toNat) (s.fbByte (f.off.toNat + 1)) s)) :=
  congrArg Host.Outcome.next (readCommand_of_inside row _ _ s habs ((insideFrame_iff _ _ _).mpr hframe))

theorem exec_tdec_of_absent (row : rowTdec f = true) (habs : f.abs = true) :
    exec (.tdec f) s = .next (raise .absent (clearTemp s)) :=
  congrArg Host.Outcome.next (readCommand_of_absent row _ _ s habs)

theorem exec_tdec_of_outside (row : rowTdec f = true) (habs : f.abs = false)
    (hframe : s.flen.val < f.off.toNat + 2) :
    exec (.tdec f) s = .next (raise .truncated (voidVerdict (clearTemp s))) :=
  congrArg Host.Outcome.next (readCommand_of_outside row _ _ s habs (decide_eq_false hframe.not_ge))

theorem exec_tenc_of_inside (row : rowTenc f = true) (hvalue : tempEncodable s.din.toInt f.t = true)
    (hframe : f.off.toNat + 2 ≤ s.flen.val) :
    exec (.tenc f) s = .next (succeed (voidVerdict (storeTemperature f s))) :=
  congrArg Host.Outcome.next (writeCommand_of_inside row hvalue ((insideFrame_iff _ _ _).mpr hframe) _ s)

theorem exec_tenc_of_outside (row : rowTenc f = true) (hvalue : tempEncodable s.din.toInt f.t = true)
    (hframe : s.flen.val < f.off.toNat + 2) : exec (.tenc f) s = .next (raise .truncated s) :=
  congrArg Host.Outcome.next (writeCommand_of_outside row hvalue (decide_eq_false hframe.not_ge) _ s)

theorem exec_tenc_of_badValue (row : rowTenc f = true) (hvalue : tempEncodable s.din.toInt f.t = false) :
    exec (.tenc f) s = .next (raise .badOperand s) :=
  congrArg Host.Outcome.next (writeCommand_of_badValue row hvalue _ _ s)

end

@[simp] theorem latchTemperature_tsign (hi lo : Byte) (s : State) :
    (latchTemperature hi lo s).tsign = tempSign hi := rfl
@[simp] theorem latchTemperature_tmag (hi lo : Byte) (s : State) :
    (latchTemperature hi lo s).tmag = tempMagnitude hi lo := rfl
@[simp] theorem latchTemperature_temp (hi lo : Byte) (s : State) :
    (latchTemperature hi lo s).temp = tempValue (tempSign hi) (tempMagnitude hi lo) := rfl
@[simp] theorem latchTemperature_tVld (hi lo : Byte) (s : State) : (latchTemperature hi lo s).tVld = true := rfl

/-- The two bytes of the window after TENC's store, and every other byte. -/
theorem storeTemperature_fbByte (f : FieldsX) (s : State) (a : Nat) :
    (storeTemperature f s).fbByte a =
      if a = f.off.toNat then tempHighByte s.din.toInt f.t
      else if a = f.off.toNat + 1 then tempLowByte s.din.toInt else s.fbByte a := by
  simp only [storeTemperature, setByte_fbByte, windowOffset, dinSigned]
  by_cases ha : a = f.off.toNat
  · rw [if_neg (by omega), if_pos ha, if_pos ha]
  · rw [if_neg ha, if_neg ha]

theorem storeTemperature_fbByte_high (f : FieldsX) (s : State) :
    (storeTemperature f s).fbByte f.off.toNat = tempHighByte s.din.toInt f.t := by
  rw [storeTemperature_fbByte, if_pos rfl]

theorem storeTemperature_fbByte_low (f : FieldsX) (s : State) :
    (storeTemperature f s).fbByte (f.off.toNat + 1) = tempLowByte s.din.toInt := by
  rw [storeTemperature_fbByte, if_neg (by omega), if_pos rfl]

/-- TDEC's result on the two bytes that TENC stored (41_temperature.md R124). -/
theorem latchTemperature_storeTemperature {f : FieldsX} {s : State} (hvalue : tempEncodable s.din.toInt f.t = true)
    (t : State) :
    let u := latchTemperature ((storeTemperature f s).fbByte f.off.toNat)
      ((storeTemperature f s).fbByte (f.off.toNat + 1)) t
    u.temp.toInt = s.din.toInt ∧ u.tsign = (decide (s.din.toInt < 0) || f.t) := by
  obtain ⟨hlow, hhigh, hzero⟩ := (tempEncodable_iff _ _).mp hvalue
  rw [storeTemperature_fbByte_high, storeTemperature_fbByte_low]
  exact ⟨tempValue_encoded hlow hhigh f.t hzero, tempSign_encoded hlow hhigh f.t⟩

/-- Storing the two bytes that the window holds changes no byte. -/
theorem storeTemperature_fbByte_of_same {f : FieldsX} {s : State}
    (hhigh : tempHighByte s.din.toInt f.t = s.fbByte f.off.toNat)
    (hlow : tempLowByte s.din.toInt = s.fbByte (f.off.toNat + 1)) (a : Nat) :
    (storeTemperature f s).fbByte a = s.fbByte a := by
  rw [storeTemperature_fbByte, hhigh, hlow]
  split_ifs with h0 h1
  · rw [h0]
  · rw [h1]
  · rfl

/-! ### The observations after TDEC (41_temperature.md R122, R125) -/

section
variable (hi lo : Byte) (s : State)

theorem physicalTemperature_latchTemperature :
    physicalTemperature (succeed (latchTemperature hi lo s)) =
      some ((if 128 ≤ hi.toNat then -1 else 1) * ((hi.toNat % 128 * 256 + lo.toNat : Nat) : Rat) / 10) := by
  rw [physicalTemperature, succeed_tVld, latchTemperature_tVld, if_pos rfl, succeed_temp, latchTemperature_temp,
    tempValue_decoded]
  split <;> simp only [Int.cast_neg, Int.cast_natCast, neg_one_mul, one_mul]

theorem isNegativeZero_latchTemperature_iff :
    isNegativeZero (succeed (latchTemperature hi lo s)) = true ↔ hi.toNat = 128 ∧ lo.toNat = 0 := by
  rw [← negativeZero_iff, isNegativeZero, succeed_tVld, latchTemperature_tVld, Bool.true_and, Bool.and_eq_true,
    decide_eq_true_iff, succeed_tsign, latchTemperature_tsign, succeed_tmag, latchTemperature_tmag]

end

end Sys2Proof.Machine

namespace Sys2Proof.Claims

/-- Settles O28: the four ends of TDEC. -/
theorem tdecRule : Obligations.TdecRule := by
  refine fun f s => ⟨fun hrow habs hframe => ?latch, fun hrow habs => ?absent, fun hrow habs hframe => ?truncated,
    fun hrow => ?badOperand⟩
  case latch =>
    exact ⟨_, exec_tdec_of_inside ((rowTdec_iff f).mpr hrow) habs hframe, rfl, tempSign_eq _,
      tempMagnitude_toNat _ _, tempValue_toInt _ _⟩
  case absent => exact exec_tdec_of_absent ((rowTdec_iff f).mpr hrow) habs
  case truncated => exact exec_tdec_of_outside ((rowTdec_iff f).mpr hrow) habs hframe
  case badOperand => exact exec_of_illFormed s (Bool.eq_false_iff.mpr (mt (rowTdec_iff f).mp hrow))

/-- Settles O32: the four ends of TENC. -/
theorem tencRule : Obligations.TencRule := by
  refine fun f s => ⟨fun hrow hlow hhigh hnz hframe => ?store, fun hrow hrange => ?badValue,
    fun hrow hlow hhigh hnz hframe => ?truncated, fun hrow => ?badOperand⟩
  case store =>
    have hvalue := (tempEncodable_iff _ _).mpr ⟨hlow, hhigh, hnz⟩
    refine ⟨_, exec_tenc_of_inside ((rowTenc_iff f).mpr hrow) hvalue hframe, rfl, fun a => ?_⟩
    rw [succeed_fbByte, voidVerdict_fbByte, storeTemperature_fbByte, ← tempHighByte_toNat hlow hhigh,
      ← tempLowByte_toNat]
    split_ifs <;> rfl
  case badValue =>
    have hvalue : tempEncodable s.din.toInt f.t = false := by
      rw [Bool.eq_false_iff, ne_eq, tempEncodable_iff]
      rintro ⟨hlow, hhigh, hnz⟩
      rcases hrange with h | h | ⟨ht, hne⟩
      exacts [h.not_ge hlow, h.not_ge hhigh, hne (hnz ht)]
    exact exec_tenc_of_badValue ((rowTenc_iff f).mpr hrow) hvalue
  case truncated =>
    exact exec_tenc_of_outside ((rowTenc_iff f).mpr hrow) ((tempEncodable_iff _ _).mpr ⟨hlow, hhigh, hnz⟩) hframe
  case badOperand => exact exec_of_illFormed s (Bool.eq_false_iff.mpr (mt (rowTenc_iff f).mp hrow))

/-- Settles O34: TDEC gives TENC the number and the NZ of its bytes (`tempHighByte_decoded`, `tempLowByte_decoded`),
and TENC gives TDEC the bytes of its number (`tempSign_encoded`, `tempValue_encoded`). -/
theorem temperatureRoundTrip : Obligations.TemperatureRoundTrip := by
  refine ⟨fun s off hframe => ?bytes, fun s off nz hframe hlow hhigh hnz => ?value⟩
  case bytes =>
    have hvalue := tempEncodable_decoded (s.fbByte off.toNat) (s.fbByte (off.toNat + 1))
    rw [← toInt_ofInt_toInt] at hvalue
    refine ⟨_, _, _, exec_tdec_of_inside rfl rfl hframe, exec_ldin_of_row rfl, exec_tenc_of_inside rfl hvalue hframe,
      rfl, fun a => ?_⟩
    rw [succeed_fbByte, voidVerdict_fbByte]
    refine storeTemperature_fbByte_of_same ?_ ?_ a
    · rw [succeed_din, loadDin_din, toInt_ofInt_toInt]
      exact tempHighByte_decoded _ _
    · rw [succeed_din, loadDin_din, toInt_ofInt_toInt]
      exact tempLowByte_decoded _ _
  case value =>
    have hvalue := (tempEncodable_iff _ _).mpr ⟨hlow, hhigh, hnz⟩
    obtain ⟨htemp, hsign⟩ :=
      latchTemperature_storeTemperature (f := { zeroX with off := off, nb := 2, t := nz }) hvalue _
    exact ⟨_, _, exec_tenc_of_inside rfl hvalue hframe, exec_tdec_of_inside rfl rfl hframe, rfl, htemp, hsign⟩

/-- Settles O56: the number decoded over 10, and `negativeZero_iff`. -/
theorem decodedTemperatureInTenths : Obligations.DecodedTemperatureInTenths := by
  intro s off hframe
  exact ⟨_, exec_tdec_of_inside rfl rfl hframe, physicalTemperature_latchTemperature _ _ s,
    isNegativeZero_latchTemperature_iff _ _ s⟩

end Sys2Proof.Claims
end

section
/-! SUPPORT. The integer commands (42_be_integer.md): the big-endian sum of 00_scope.md R10 is what a window reads as;
UNPACK and PACK end by end; a window's value and its bytes stand for each other one to one, which is the round trip of
R144; and the scaled value as a quotient in the rationals. -/

open Sys2Proof Sys2Proof.Machine Sys2Proof.Claims

namespace Sys2Proof.Machine

/-! ### The value of a window (00_scope.md R10) -/

/-- The sum of R10 peels off its most significant byte, as `State.beValue` does. -/
theorem bigEndianSum_succ (s : State) (o n : Nat) :
    bigEndianSum s o (n + 1) = (s.fbByte o).toNat * 2 ^ (8 * n) + bigEndianSum s (o + 1) n := by
  have hterm (k : Nat) : (s.fbByte (o + (k + 1))).toNat * 2 ^ (8 * (n - (k + 1))) =
      (s.fbByte (o + 1 + k)).toNat * 2 ^ (8 * (n - 1 - k)) := by
    rw [show o + (k + 1) = o + 1 + k by omega, show n - (k + 1) = n - 1 - k by omega]
  simp only [bigEndianSum, List.range_succ_eq_map, List.map_cons, List.map_map, List.sum_cons, Function.comp_def,
    Nat.succ_eq_add_one, hterm, Nat.add_zero, Nat.add_sub_cancel, Nat.sub_zero]

theorem bigEndianSum_eq_beValue (s : State) (o n : Nat) : bigEndianSum s o n = s.beValue o n := by
  induction n generalizing o with
  | zero => rfl
  | succ n ih => rw [bigEndianSum_succ, beValue_succ, ih]

/-- A window of at most 6 bytes fits ACC and DIN (00_scope.md R5). -/
theorem beValue_lt_word48 (s : State) (o : Nat) {n : Nat} (h : n ≤ 6) : s.beValue o n < 2 ^ 48 :=
  (beValue_lt s o n).trans_le (Nat.pow_le_pow_right (by decide) (by omega))

/-- Storing the value that a window holds changes no byte. -/
theorem memWrite_memRead_fbByte (s : State) (o n a : Nat) :
    (memWrite s o n (memRead s o n)).fbByte a = s.fbByte a := by
  rw [memWrite_fbByte]
  split
  case isTrue hin => rw [memRead, beValue_byte s o n (a - o) (by omega), Nat.add_sub_cancel' hin.1]
  case isFalse => rfl

/-! ### UNPACK and PACK, end by end -/

section
variable {nb : BitVec 3} (hmin : 1 ≤ nb.toNat) (hmax : nb.toNat ≤ 6) (off : BitVec 8)
include hmin hmax

theorem rowUnpack_of_window {d : BitVec 4} (hdiv : divtab d ≠ none) :
    rowUnpack { zeroX with off := off, nb := nb, dsel := d } = true :=
  (rowUnpack_iff _).mpr ⟨⟨hmin, hmax⟩, rfl, rfl, rfl, rfl, hdiv⟩

theorem rowPack_of_window : rowPack { zeroX with off := off, nb := nb } = true :=
  (rowPack_iff _).mpr ⟨⟨hmin, hmax⟩, rfl, rfl, rfl, rfl, rfl, rfl⟩

end

section
variable {f : FieldsX} {s : State}

theorem exec_unpack_of_inside (row : rowUnpack f = true) (habs : f.abs = false)
    (hframe : f.off.toNat + f.nb.toNat ≤ s.flen.val) :
    exec (.unpack f) s = .next (succeed (latchInteger f s)) :=
  congrArg Host.Outcome.next (readCommand_of_inside row _ _ s habs ((insideFrame_iff _ _ _).mpr hframe))

theorem exec_unpack_of_absent (row : rowUnpack f = true) (habs : f.abs = true) :
    exec (.unpack f) s = .next (raise .absent (clearAcc s)) :=
  congrArg Host.Outcome.next (readCommand_of_absent row _ _ s habs)

theorem exec_unpack_of_outside (row : rowUnpack f = true) (habs : f.abs = false)
    (hframe : s.flen.val < f.off.toNat + f.nb.toNat) :
    exec (.unpack f) s = .next (raise .truncated (voidVerdict (clearAcc s))) :=
  congrArg Host.Outcome.next (readCommand_of_outside row _ _ s habs (decide_eq_false hframe.not_ge))

theorem exec_pack_of_inside (row : rowPack f = true) (hvalue : s.din.toNat < 2 ^ (8 * f.nb.toNat))
    (hframe : f.off.toNat + f.nb.toNat ≤ s.flen.val) :
    exec (.pack f) s = .next (succeed (voidVerdict (storeInteger f s))) :=
  congrArg Host.Outcome.next
    (writeCommand_of_inside row (decide_eq_true hvalue) ((insideFrame_iff _ _ _).mpr hframe) _ s)

theorem exec_pack_of_outside (row : rowPack f = true) (hvalue : s.din.toNat < 2 ^ (8 * f.nb.toNat))
    (hframe : s.flen.val < f.off.toNat + f.nb.toNat) : exec (.pack f) s = .next (raise .truncated s) :=
  congrArg Host.Outcome.next
    (writeCommand_of_outside row (decide_eq_true hvalue) (decide_eq_false hframe.not_ge) _ s)

theorem exec_pack_of_badValue (row : rowPack f = true) (hvalue : 2 ^ (8 * f.nb.toNat) ≤ s.din.toNat) :
    exec (.pack f) s = .next (raise .badOperand s) :=
  congrArg Host.Outcome.next (writeCommand_of_badValue row (decide_eq_false hvalue.not_gt) _ _ s)

end

section
variable (f : FieldsX) (s : State)

theorem latchInteger_acc :
    (latchInteger f s).acc = BitVec.ofNat 48 (memRead s f.off.toNat f.nb.toNat) := rfl

/-- ACC after UNPACK is the window's value, not cut. -/
theorem latchInteger_acc_toNat (hcount : f.nb.toNat ≤ 6) :
    (latchInteger f s).acc.toNat = memRead s f.off.toNat f.nb.toNat := by
  rw [latchInteger_acc, BitVec.toNat_ofNat, memRead, Nat.mod_eq_of_lt (beValue_lt_word48 s _ hcount)]

theorem storeInteger_eq : storeInteger f s = memWrite s f.off.toNat f.nb.toNat s.din.toNat := rfl

/-- Byte k of the window after PACK's store is byte k of DIN (42_be_integer.md R143). -/
theorem storeInteger_fbByte_toNat {k : Nat} (hk : k < f.nb.toNat) :
    ((storeInteger f s).fbByte (f.off.toNat + k)).toNat = s.din.toNat / 2 ^ (8 * (f.nb.toNat - 1 - k)) % 256 := by
  rw [storeInteger_eq, memWrite_fbByte, if_pos (by omega), Nat.add_sub_cancel_left, BitVec.toNat_ofNat,
    Nat.shiftRight_eq_div_pow]

theorem storeInteger_fbByte_of_outside {a : Nat} (ha : a < f.off.toNat ∨ f.off.toNat + f.nb.toNat ≤ a) :
    (storeInteger f s).fbByte a = s.fbByte a := by
  rw [storeInteger_eq, memWrite_fbByte, if_neg (by omega)]

end

/-! ### The two commands undo each other (42_be_integer.md R144) -/

/-- PACK of the value its window holds changes no byte. -/
theorem storeInteger_fbByte_of_same {f : FieldsX} {s : State}
    (hvalue : s.din.toNat = memRead s f.off.toNat f.nb.toNat) (a : Nat) :
    (storeInteger f s).fbByte a = s.fbByte a := by
  rw [storeInteger_eq, hvalue, memWrite_memRead_fbByte]

/-- UNPACK's value of the window that PACK stored is DIN. -/
theorem memRead_storeInteger {f : FieldsX} {s : State} (hvalue : s.din.toNat < 2 ^ (8 * f.nb.toNat)) :
    memRead (storeInteger f s) f.off.toNat f.nb.toNat = s.din.toNat := by
  rw [storeInteger_eq, memRead_memWrite, Nat.mod_eq_of_lt hvalue]

/-! ### The scaled value (42_be_integer.md R142) -/

theorem scaledValue_of_accVld {s : State} (h : s.accVld = true) :
    scaledValue s = ((divtab s.accDsel).map divisorValue).map ((s.acc.toNat : Rat) / ·) := by
  rw [scaledValue, if_pos h, Option.map_map]
  rfl

theorem div_divisorValue_mul_num (x : Rat) (d : Divisor) : x / divisorValue d * (d.num : Rat) = x * (d.den : Rat) := by
  have hnum : (d.num : Rat) ≠ 0 := Nat.cast_ne_zero.mpr d.num_pos.ne'
  rw [divisorValue, div_div_eq_mul_div, div_mul_cancel₀ _ hnum]

end Sys2Proof.Machine

namespace Sys2Proof.Claims

/-- Settles O26: the four ends of UNPACK, its value by `bigEndianSum_eq_beValue`. -/
theorem unpackRule : Obligations.UnpackRule := by
  refine fun f s => ⟨fun hrow habs hframe => ?latch, fun hrow habs => ?absent, fun hrow habs hframe => ?truncated,
    fun hrow => ?badOperand⟩
  case latch =>
    have ⟨⟨_, hcount⟩, _⟩ := hrow
    rw [bigEndianSum_eq_beValue]
    exact ⟨exec_unpack_of_inside ((rowUnpack_iff f).mpr hrow) habs hframe, beValue_lt_word48 s _ hcount⟩
  case absent => exact exec_unpack_of_absent ((rowUnpack_iff f).mpr hrow) habs
  case truncated => exact exec_unpack_of_outside ((rowUnpack_iff f).mpr hrow) habs hframe
  case badOperand => exact exec_of_illFormed s (Bool.eq_false_iff.mpr (mt (rowUnpack_iff f).mp hrow))

/-- Settles O30: the four ends of PACK, its bytes by `storeInteger_fbByte_toNat`. -/
theorem packRule : Obligations.PackRule := by
  refine fun f s => ⟨fun hrow hvalue hframe => ?store, fun hrow hvalue => ?badValue,
    fun hrow hvalue hframe => ?truncated, fun hrow => ?badOperand⟩
  case store =>
    exact ⟨_, exec_pack_of_inside ((rowPack_iff f).mpr hrow) hvalue hframe, rfl,
      fun _ hk => storeInteger_fbByte_toNat f s hk, fun _ ha => storeInteger_fbByte_of_outside f s ha⟩
  case badValue => exact exec_pack_of_badValue ((rowPack_iff f).mpr hrow) hvalue
  case truncated => exact exec_pack_of_outside ((rowPack_iff f).mpr hrow) hvalue hframe
  case badOperand => exact exec_of_illFormed s (Bool.eq_false_iff.mpr (mt (rowPack_iff f).mp hrow))

/-- Settles O35: UNPACK and LDIN give PACK the value its window holds (`storeInteger_fbByte_of_same`), and PACK gives
UNPACK the bytes of DIN (`memRead_storeInteger`). -/
theorem integerRoundTrip : Obligations.IntegerRoundTrip := by
  refine ⟨fun s off nb hmin hmax hframe => ?bytes, fun s off nb d hmin hmax hframe hvalue hdiv => ?value⟩
  case bytes =>
    have hacc := latchInteger_acc_toNat { zeroX with off := off, nb := nb } s hmax
    have hunpack := rowUnpack_of_window hmin hmax off (d := 0) nofun
    refine ⟨_, _, _, exec_unpack_of_inside hunpack rfl hframe, exec_ldin_of_row rfl,
      exec_pack_of_inside (rowPack_of_window hmin hmax off) (hacc.trans_lt (beValue_lt s _ _)) hframe, rfl,
      fun a => ?_⟩
    rw [succeed_fbByte, voidVerdict_fbByte]
    refine storeInteger_fbByte_of_same (hacc.trans ?_) a
    exact beValue_congr fun _ _ _ => rfl
  case value =>
    refine ⟨_, _, exec_pack_of_inside (rowPack_of_window hmin hmax off) hvalue hframe,
      exec_unpack_of_inside (rowUnpack_of_window hmin hmax off hdiv) rfl hframe, rfl, BitVec.eq_of_toNat_eq ?_⟩
    rw [succeed_acc, latchInteger_acc_toNat _ _ hmax]
    refine Eq.trans ?_ (memRead_storeInteger (f := { zeroX with off := off, nb := nb }) hvalue)
    exact beValue_congr fun _ _ _ => rfl

/-- Settles O55: `scaledValue_of_accVld` at any present divisor, and at the fixed divisors 1 and 223666/1000. -/
theorem scaledValueIsExact : Obligations.ScaledValueIsExact := by
  intro s hvld
  rw [scaledValue_of_accVld hvld]
  refine ⟨fun v hv => ?present, fun hdsel => ?one, fun hdsel => ?decimal⟩
  case present => exact ⟨s.acc.toNat / divisorValue v, by rw [hv]; rfl, div_divisorValue_mul_num _ v⟩
  case one => rw [hdsel, divtab_zero_value, Option.map_some, div_one]
  case decimal => rw [hdsel, divtab_three_value, Option.map_some, div_div_eq_mul_div]

end Sys2Proof.Claims
end

section
/-! SUPPORT. The nibble commands (43_nibble.md): where their byte is (R164); a byte as the pair of its nibbles, in both
directions; NSPLIT and NPACK end by end. A byte and its two nibbles stand for each other one to one, which is the round
trip of R163. -/

open Sys2Proof Sys2Proof.Machine Sys2Proof.Claims

namespace Sys2Proof.Machine

/-! ### The byte's position (43_nibble.md R164) -/

section
variable (f : FieldsX) (s : State)

theorem nibbleAddress_eq : nibbleAddress f s = if f.t = true then s.flen.val - 1 else f.off.toNat := rfl

theorem nibbleInside_iff :
    nibbleInside f s = true ↔ (if f.t = true then 1 else f.off.toNat + 1) ≤ s.flen.val := by
  rw [nibbleInside]
  split <;> exact decide_eq_true_iff

theorem nibbleInside_eq_false_iff :
    nibbleInside f s = false ↔ s.flen.val < (if f.t = true then 1 else f.off.toNat + 1) := by
  rw [← Bool.not_eq_true, nibbleInside_iff, Nat.not_le]

end

section
variable {off : BitVec 8} {tail : Bool} (htail : tail = true → off = 0)
include htail

theorem rowNsplit_of_position : rowNsplit { zeroX with off := off, nb := 1, t := tail } = true :=
  (rowNsplit_iff _).mpr ⟨rfl, rfl, rfl, rfl, rfl, htail⟩

theorem rowNpack_of_position : rowNpack { zeroX with off := off, nb := 1, t := tail } = true :=
  (rowNpack_iff _).mpr ⟨⟨rfl, rfl, rfl, rfl, rfl, htail⟩, rfl⟩

end

/-! ### A byte and its two nibbles (20_memory.md R53, 43_nibble.md R161, R162) -/

theorem highNibble_eq_ofNat {n : Nat} (x : BitVec n) : x.extractLsb' 4 4 = BitVec.ofNat 4 (x.toNat / 16) :=
  BitVec.eq_of_toNat_eq (by rw [BitVec.extractLsb'_toNat, Nat.shiftRight_eq_div_pow, BitVec.toNat_ofNat])

theorem lowNibble_eq_ofNat {n : Nat} (x : BitVec n) : x.extractLsb' 0 4 = BitVec.ofNat 4 (x.toNat % 16) :=
  BitVec.eq_of_toNat_eq (by rw [BitVec.extractLsb'_toNat, Nat.shiftRight_zero, BitVec.toNat_ofNat, Nat.mod_mod])

/-- Two nibbles side by side are the number whose base-16 digits they are. -/
theorem toNat_append_nibbles (r b : BitVec 4) : (r ++ b).toNat = r.toNat * 16 + b.toNat := by
  rw [BitVec.toNat_append, ← Nat.shiftLeft_add_eq_or_of_lt b.isLt, Nat.shiftLeft_eq]

theorem packNibbles_toNat {d : BitVec 48} (h : d.toNat < 256) :
    (packNibbles d).toNat = d.toNat / 16 * 16 + d.toNat % 16 := by
  rw [packNibbles, toNat_append_nibbles, highNibble_eq_ofNat, lowNibble_eq_ofNat, BitVec.toNat_ofNat,
    BitVec.toNat_ofNat, Nat.mod_mod, Nat.mod_eq_of_lt (a := d.toNat / 16) (by omega)]

section
variable (r b : BitVec 4)

/-- What the host loads for two nibbles, `(r << 4) | b`, is not cut by DIN. -/
theorem ofNat_nibbles_toNat : (BitVec.ofNat 48 (r.toNat * 16 + b.toNat)).toNat = r.toNat * 16 + b.toNat := by
  rw [BitVec.toNat_ofNat, Nat.mod_eq_of_lt (by omega)]

theorem ofNat_nibbles_lt : (BitVec.ofNat 48 (r.toNat * 16 + b.toNat)).toNat < 256 := by
  rw [ofNat_nibbles_toNat]
  omega

theorem packNibbles_ofNat_nibbles : packNibbles (BitVec.ofNat 48 (r.toNat * 16 + b.toNat)) = r ++ b := by
  apply BitVec.eq_of_toNat_eq
  rw [packNibbles_toNat (ofNat_nibbles_lt r b), ofNat_nibbles_toNat, toNat_append_nibbles]
  omega

theorem highNibble_append : (r ++ b).extractLsb' 4 4 = r := by
  rw [highNibble_eq_ofNat, toNat_append_nibbles, show (r.toNat * 16 + b.toNat) / 16 = r.toNat by omega,
    BitVec.ofNat_toNat, BitVec.setWidth_eq]

theorem lowNibble_append : (r ++ b).extractLsb' 0 4 = b := by
  rw [lowNibble_eq_ofNat, toNat_append_nibbles, show (r.toNat * 16 + b.toNat) % 16 = b.toNat by omega,
    BitVec.ofNat_toNat, BitVec.setWidth_eq]

end

/-- A byte is its two nibbles side by side. -/
theorem highNibble_append_lowNibble (b : Byte) : b.extractLsb' 4 4 ++ b.extractLsb' 0 4 = b := by
  apply BitVec.eq_of_toNat_eq
  rw [toNat_append_nibbles, highNibble_eq_ofNat, lowNibble_eq_ofNat, BitVec.toNat_ofNat, BitVec.toNat_ofNat]
  omega

/-! ### NSPLIT and NPACK, end by end -/

/-- RSSI and BATT after NSPLIT are the quotient and the remainder of the byte by 16. -/
theorem succeed_latchNib_eq (b : Byte) (s : State) :
    succeed (latchNib b s) =
      { s with
        rssi := BitVec.ofNat 4 (b.toNat / 16), batt := BitVec.ofNat 4 (b.toNat % 16), nibVld := true,
        opstat := .ok } := by
  rw [← highNibble_eq_ofNat, ← lowNibble_eq_ofNat]
  rfl

section
variable {f : FieldsX} {s : State}

theorem exec_nsplit_of_inside (row : rowNsplit f = true) (habs : f.abs = false) (hinside : nibbleInside f s = true) :
    exec (.nsplit f) s = .next (succeed (latchNib (s.fbByte (nibbleAddress f s)) s)) :=
  congrArg Host.Outcome.next (readCommand_of_inside row _ _ s habs hinside)

theorem exec_nsplit_of_address (row : rowNsplit f = true) (habs : f.abs = false)
    (hinside : nibbleInside f s = true) {a : Nat} (haddress : nibbleAddress f s = a) :
    exec (.nsplit f) s = .next
      { s with
        rssi := BitVec.ofNat 4 ((s.fbByte a).toNat / 16), batt := BitVec.ofNat 4 ((s.fbByte a).toNat % 16),
        nibVld := true, opstat := .ok } := by
  rw [exec_nsplit_of_inside row habs hinside, haddress, succeed_latchNib_eq]

theorem exec_nsplit_of_absent (row : rowNsplit f = true) (habs : f.abs = true) :
    exec (.nsplit f) s = .next (raise .absent (clearNib s)) :=
  congrArg Host.Outcome.next (readCommand_of_absent row _ _ s habs)

theorem exec_nsplit_of_outside (row : rowNsplit f = true) (habs : f.abs = false)
    (houtside : nibbleInside f s = false) :
    exec (.nsplit f) s = .next (raise .truncated (voidVerdict (clearNib s))) :=
  congrArg Host.Outcome.next (readCommand_of_outside row _ _ s habs houtside)

theorem exec_npack_of_inside (row : rowNpack f = true) (hvalue : s.din.toNat < 256)
    (hinside : nibbleInside f s = true) :
    exec (.npack f) s = .next (succeed (voidVerdict (s.setByte (nibbleAddress f s) (packNibbles s.din)))) :=
  congrArg Host.Outcome.next (writeCommand_of_inside row (decide_eq_true hvalue) hinside _ s)

theorem exec_npack_of_outside (row : rowNpack f = true) (hvalue : s.din.toNat < 256)
    (houtside : nibbleInside f s = false) : exec (.npack f) s = .next (raise .truncated s) :=
  congrArg Host.Outcome.next (writeCommand_of_outside row (decide_eq_true hvalue) houtside _ s)

theorem exec_npack_of_badValue (row : rowNpack f = true) (hvalue : 256 ≤ s.din.toNat) :
    exec (.npack f) s = .next (raise .badOperand s) :=
  congrArg Host.Outcome.next (writeCommand_of_badValue row (decide_eq_false hvalue.not_gt) _ _ s)

end

/-! ### The two commands undo each other (43_nibble.md R163) -/

theorem setByte_fbByte_self (s : State) (a : Nat) (b : Byte) : (s.setByte a b).fbByte a = b := by
  rw [setByte_fbByte, if_pos rfl]

/-- Storing the byte that an address holds changes no byte. -/
theorem setByte_fbByte_of_same {s : State} {a : Nat} {b : Byte} (h : b = s.fbByte a) (c : Nat) :
    (s.setByte a b).fbByte c = s.fbByte c := by
  rw [setByte_fbByte]
  split
  case isTrue hc => rw [h, hc]
  case isFalse => rfl

/-- NPACK of the nibbles that NSPLIT latched stores the byte they were read from. -/
theorem packNibbles_latchNib (b : Byte) (s : State) :
    packNibbles (BitVec.ofNat 48 ((latchNib b s).rssi.toNat * 16 + (latchNib b s).batt.toNat)) = b := by
  rw [packNibbles_ofNat_nibbles, latchNib_rssi, latchNib_batt, highNibble_append_lowNibble]

/-- NSPLIT of the byte that NPACK stored latches the two nibbles it was given. -/
theorem latchNib_of_packed (r b : BitVec 4) {x : Byte}
    (h : x = packNibbles (BitVec.ofNat 48 (r.toNat * 16 + b.toNat))) (s : State) :
    (latchNib x s).rssi = r ∧ (latchNib x s).batt = b := by
  rw [h, packNibbles_ofNat_nibbles]
  exact ⟨highNibble_append r b, lowNibble_append r b⟩

end Sys2Proof.Machine

namespace Sys2Proof.Claims

/-- Settles O27: the five ends of NSPLIT, at an offset and at the tail. -/
theorem nsplitRule : Obligations.NsplitRule := by
  refine fun f s => ⟨fun hrow habs ht hframe => ?offset, fun hrow habs ht hframe => ?tail,
    fun hrow habs => ?absent, fun hrow habs houtside => ?truncated, fun hrow => ?badOperand⟩
  case offset =>
    have hoff : ¬ f.t = true := Bool.eq_false_iff.mp ht
    exact exec_nsplit_of_address ((rowNsplit_iff f).mpr hrow) habs
      ((nibbleInside_iff f s).mpr ((if_neg hoff).trans_le hframe)) ((nibbleAddress_eq f s).trans (if_neg hoff))
  case tail =>
    exact exec_nsplit_of_address ((rowNsplit_iff f).mpr hrow) habs
      ((nibbleInside_iff f s).mpr ((if_pos ht).trans_le hframe)) ((nibbleAddress_eq f s).trans (if_pos ht))
  case absent => exact exec_nsplit_of_absent ((rowNsplit_iff f).mpr hrow) habs
  case truncated =>
    refine exec_nsplit_of_outside ((rowNsplit_iff f).mpr hrow) habs ((nibbleInside_eq_false_iff f s).mpr ?_)
    rcases houtside with ⟨ht, hlt⟩ | ⟨ht, hempty⟩
    · rwa [if_neg (Bool.eq_false_iff.mp ht)]
    · rw [if_pos ht, hempty]
      exact Nat.one_pos
  case badOperand => exact exec_of_illFormed s (Bool.eq_false_iff.mpr (mt (rowNsplit_iff f).mp hrow))

/-- Settles O31: the four ends of NPACK, its byte by `packNibbles_toNat`. -/
theorem npackRule : Obligations.NpackRule := by
  refine fun f s => ⟨fun hrow hvalue hframe => ?store, fun hrow hvalue => ?badValue,
    fun hrow hvalue hframe => ?truncated, fun hrow => ?badOperand, nibbleAddress_eq f s⟩
  case store =>
    refine ⟨_, exec_npack_of_inside ((rowNpack_iff f).mpr hrow) hvalue ((nibbleInside_iff f s).mpr hframe), rfl,
      fun a => ?_⟩
    rw [succeed_fbByte, voidVerdict_fbByte, setByte_fbByte, ← packNibbles_toNat hvalue]
    split <;> rfl
  case badValue => exact exec_npack_of_badValue ((rowNpack_iff f).mpr hrow) hvalue
  case truncated =>
    exact exec_npack_of_outside ((rowNpack_iff f).mpr hrow) hvalue ((nibbleInside_eq_false_iff f s).mpr hframe)
  case badOperand => exact exec_of_illFormed s (Bool.eq_false_iff.mpr (mt (rowNpack_iff f).mp hrow))

/-- Settles O36: NSPLIT and LDIN give NPACK the byte its address holds (`packNibbles_latchNib`), and NPACK gives NSPLIT
the two nibbles in DIN (`latchNib_of_packed`). -/
theorem nibbleRoundTrip : Obligations.NibbleRoundTrip := by
  refine ⟨fun s off tail htail hframe => ?bytes, fun s off tail r b htail hframe => ?nibbles⟩
  case bytes =>
    have hinside := (nibbleInside_iff { zeroX with off := off, nb := 1, t := tail } s).mpr hframe
    refine ⟨_, _, _, exec_nsplit_of_inside (rowNsplit_of_position htail) rfl hinside, exec_ldin_of_row rfl,
      exec_npack_of_inside (rowNpack_of_position htail) (ofNat_nibbles_lt _ _) hinside, rfl, fun a => ?_⟩
    rw [succeed_fbByte, voidVerdict_fbByte]
    exact setByte_fbByte_of_same (packNibbles_latchNib _ s) a
  case nibbles =>
    have hinside := (nibbleInside_iff { zeroX with off := off, nb := 1, t := tail } s).mpr hframe
    refine ⟨_, _, _, exec_ldin_of_row rfl,
      exec_npack_of_inside (rowNpack_of_position htail) (ofNat_nibbles_lt r b) hinside,
      exec_nsplit_of_inside (rowNsplit_of_position htail) rfl hinside, rfl,
      latchNib_of_packed r b (setByte_fbByte_self _ _ _) _⟩

end Sys2Proof.Claims
end

section
/-! SUPPORT. The frame-type dispatcher (44_dispatch.md): DISPATCH end by end, in the order of its checks (R181); when a
frame gets the verdict "a result"; and a buffer of any length loaded and dispatched. A buffer of up to 256 bytes becomes
the frame; the 257th byte of a longer one sets OVF, which no later PUSH clears, so DISPATCH refuses it. -/

open Sys2Proof Sys2Proof.Machine Sys2Proof.Claims

namespace Sys2Proof.Machine

/-! ### DISPATCH, end by end (44_dispatch.md R181) -/

theorem rowDispatch_zeroX : rowDispatch zeroX = true := rfl

/-- A frame that fails the framing check (44_dispatch.md R182). -/
theorem framingBad_iff (s : State) :
    framingBad s = true ↔ s.ovf = true ∨ s.flen.val < 2 ∨ (s.fbByte 0).toNat + 1 ≠ s.flen.val := by
  rw [← Bool.not_eq_false, framingBad_eq_false_iff, not_and_or, not_and_or, Bool.not_eq_false, Nat.not_le]

section
variable {s : State} {e : RegistryEntry}

theorem exec_dispatch_of_misframed (bad : framingBad s = true) :
    exec (.dispatch zeroX) s = .next (dispatchFail .framing s) := by
  simp [exec, execDispatch, rowDispatch_zeroX, bad]

theorem exec_dispatch_of_unregistered (framed : framingBad s = false) (entry : registry (s.fbByte 1) = none) :
    exec (.dispatch zeroX) s = .next (dispatchFail .unknownType s) := by
  simp [exec, execDispatch, rowDispatch_zeroX, framed, entry]

theorem exec_dispatch_of_short (framed : framingBad s = false) (entry : registry (s.fbByte 1) = some e)
    (short : s.flen.val < 4) : exec (.dispatch zeroX) s = .next (dispatchFail .truncated s) := by
  simp [exec, execDispatch, rowDispatch_zeroX, framed, entry, short]

theorem exec_dispatch_of_header (framed : framingBad s = false) (entry : registry (s.fbByte 1) = some e)
    (header : 4 ≤ s.flen.val) : exec (.dispatch zeroX) s = .next (succeed (captureHeader e s)) := by
  simp [exec, execDispatch, rowDispatch_zeroX, framed, entry, header.not_gt]

end

/-! ### The verdict of a DISPATCH (44_dispatch.md R188) -/

/-- The frame passes every check of DISPATCH: framing, a registered type, the four header bytes. -/
def passesDispatch (s : State) : Bool :=
  !framingBad s && (registry (s.fbByte 1)).isSome && decide (4 ≤ s.flen.val)

/-- The verdict after a DISPATCH is "a result" exactly when the frame passes its checks. -/
theorem exec_dispatch_verdict (s : State) :
    ∃ t, exec (.dispatch zeroX) s = .next t ∧ frameVerdict t = passesDispatch s := by
  cases framed : framingBad s with
  | true => exact ⟨_, exec_dispatch_of_misframed framed, by simp [passesDispatch, framed, frameVerdict, dispatchFail]⟩
  | false =>
    cases entry : registry (s.fbByte 1) with
    | none =>
      exact ⟨_, exec_dispatch_of_unregistered framed entry, by
        simp [passesDispatch, entry, frameVerdict, dispatchFail]⟩
    | some e =>
      rcases Nat.lt_or_ge s.flen.val 4 with short | header
      · exact ⟨_, exec_dispatch_of_short framed entry short, by
          simp [passesDispatch, short, frameVerdict, dispatchFail]⟩
      · exact ⟨_, exec_dispatch_of_header framed entry header, by
          simp [passesDispatch, framed, entry, header, frameVerdict, captureHeader]⟩

theorem passesDispatch_of_overflowed {s : State} (hovf : s.ovf = true) : passesDispatch s = false := by
  have bad : framingBad s = true := (framingBad_iff s).mpr (.inl hovf)
  simp [passesDispatch, bad]

/-- On a loaded buffer the checks of DISPATCH are the source's contract; both refuse fewer than two bytes,
whatever they are. -/
theorem Loaded.passesDispatch_eq {bytes : List Byte} {s : State} (h : Loaded bytes s) :
    passesDispatch s = contractAccepts bytes := by
  rcases Nat.lt_or_ge bytes.length 2 with short | long
  · have bad : framingBad s = true := (framingBad_iff s).mpr (.inr (.inl (h.length ▸ short)))
    simp [passesDispatch, bad, contractAccepts, short]
  · have hnonempty : 0 < bytes.length := by omega
    have hsecond : 1 < bytes.length := long
    have hframing : (!framingBad s) = decide (bytes[0].toNat + 1 = bytes.length) := by
      rw [Bool.eq_iff_iff, Bool.not_eq_true', framingBad_eq_false_iff, decide_eq_true_iff, h.noOverflow, h.length,
        h.fbByte hnonempty]
      simp only [long, true_and]
    simp [passesDispatch, hframing, h.fbByte hsecond, h.length, contractAccepts, long, hnonempty, hsecond]

/-- A byte never declares more than 256 bytes (44_dispatch.md R182). -/
theorem contractAccepts_of_overlong {bytes : List Byte} (long : 256 < bytes.length) : contractAccepts bytes = false := by
  have hdeclared : (bytes.getD 0 0).toNat + 1 ≠ bytes.length := by
    have hbyte := (bytes.getD 0 0).isLt
    omega
  simp only [contractAccepts, hdeclared, decide_false, Bool.and_false, Bool.false_and]

/-! ### A buffer of any length, loaded (40_frame.md R103, R106) -/

/-- No PUSH clears OVF (10_state.md R23). -/
theorem exec_push_overflowed {f : FieldsD} {s t : State} (h : exec (.push f) s = .next t) (hovf : s.ovf = true) :
    t.ovf = true := by
  rw [exec_ovf h, hovf]
  simp [isClr]

theorem afterOps_pushes_overflowed {s : State} (hovf : s.ovf = true) (bytes : List Byte) :
    ∃ t, t.ovf = true ∧ ∀ ops, afterOps (bytes.map pushOp ++ ops) s = afterOps ops t := by
  induction bytes generalizing s with
  | nil => exact ⟨s, hovf, fun _ => rfl⟩
  | cons b bytes ih =>
    obtain ⟨u, hpush⟩ := exec_total (.push { rsvd := 0, imm := b.setWidth 48 }) s
    obtain ⟨t, ht, hrun⟩ := ih (s := freshDraw u) (exec_push_overflowed (t := u) hpush hovf)
    exact ⟨t, ht, fun ops => (afterOps_cmd hpush _).trans (hrun ops)⟩

/-- The first 256 bytes fill FB, the next one sets OVF, and the others leave it set. -/
theorem afterOps_load_overlong {bytes : List Byte} (s : State) (long : 256 < bytes.length) :
    ∃ t, t.ovf = true ∧
      ∀ ops, afterOps (.cmd (encode (.clr zeroD)) :: (bytes.map pushOp ++ ops)) s = afterOps ops t := by
  have hsplit : bytes = bytes.take 256 ++ bytes[256] :: bytes.drop 257 := by simp
  have hfirst : (bytes.take 256).length = 256 := List.length_take_of_le long.le
  obtain ⟨u, hu, hload⟩ := afterOps_load s hfirst.le
  have hpush := exec_push_full bytes[256] (hu.length.trans hfirst)
  obtain ⟨t, ht, hrest⟩ :=
    afterOps_pushes_overflowed (s := freshDraw (raise .overflow (voidVerdict (setOverflow u)))) rfl (bytes.drop 257)
  refine ⟨t, ht, fun ops => ?_⟩
  rw [hsplit, List.map_append, List.append_assoc, hload]
  exact (afterOps_cmd hpush _).trans (hrest ops)

/-- However long the buffer, DISPATCH finds after its load what the contract asks of it. -/
theorem afterOps_load_passesDispatch (bytes : List Byte) (s : State) :
    ∃ t, passesDispatch t = contractAccepts bytes ∧
      ∀ ops, afterOps (.cmd (encode (.clr zeroD)) :: (bytes.map pushOp ++ ops)) s = afterOps ops t := by
  rcases Nat.lt_or_ge 256 bytes.length with long | room
  · obtain ⟨t, hovf, hrun⟩ := afterOps_load_overlong s long
    exact ⟨t, (passesDispatch_of_overflowed hovf).trans (contractAccepts_of_overlong long).symm, hrun⟩
  · obtain ⟨t, ht, hrun⟩ := afterOps_load s room
    exact ⟨t, ht.passesDispatch_eq, hrun⟩

end Sys2Proof.Machine

namespace Sys2Proof.Claims

/-- Settles O53: the load leaves a frame that passes the checks of DISPATCH exactly when the contract accepts the
buffer, and the verdict of DISPATCH is that of its checks. -/
theorem dispatchVerdictIsTheContract : Obligations.DispatchVerdictIsTheContract := by
  intro bytes s
  obtain ⟨t, hchecks, hrun⟩ := afterOps_load_passesDispatch bytes s
  obtain ⟨u, hdispatch, hverdict⟩ := exec_dispatch_verdict t
  exact ⟨_, (hrun _).trans (afterOps_cmd hdispatch []), hverdict.trans hchecks⟩

/-- Settles O23: the five ends of DISPATCH, in the order of its checks. -/
theorem dispatchRule : Obligations.DispatchRule := by
  refine fun f s => ⟨fun hne => ?badOperand, fun hzero hbad => ?framing, fun hzero hovf hlen hdeclared => ?lookup,
    fun e hzero hovf hlen hdeclared entry => ?captured⟩
  case badOperand => exact exec_of_illFormed s (allZeroX_eq_false hne)
  case framing =>
    subst hzero
    exact exec_dispatch_of_misframed ((framingBad_iff s).mpr hbad)
  case lookup =>
    subst hzero
    have framed : framingBad s = false := (framingBad_eq_false_iff s).mpr ⟨hovf, hlen, hdeclared⟩
    cases entry : registry (s.fbByte 1) with
    | none => exact exec_dispatch_of_unregistered framed entry
    | some e =>
      change exec (.dispatch zeroX) s = .next (if s.flen.val < 4 then _ else _)
      split
      case isTrue short => exact exec_dispatch_of_short framed entry short
      case isFalse long => exact exec_dispatch_of_header framed entry (Nat.le_of_not_lt long)
  case captured =>
    subst hzero
    have framed : framingBad s = false := (framingBad_eq_false_iff s).mpr ⟨hovf, by omega, hdeclared⟩
    exact exec_dispatch_of_header framed entry hlen

/-- Settles O24: the header is captured, with what SUBTYPE_KNOWN says as SUBKNOWN. -/
theorem unknownSubtypeIsNotFatal : Obligations.UnknownSubtypeIsNotFatal := by
  intro s e hovf hlen hdeclared entry
  have framed : framingBad s = false := (framingBad_eq_false_iff s).mpr ⟨hovf, by omega, hdeclared⟩
  exact ⟨_, exec_dispatch_of_header framed entry hlen, rfl, rfl, rfl⟩

end Sys2Proof.Claims
end

section
/-! SUPPORT. The bit-field commands (45_bitslice.md): the field that SLICE reads and the value that INSERT stores, bit
by bit; SLICE and INSERT end by end. A bit of the stored window is a bit of DIN inside the field and the window's own
bit outside it, which gives both directions of R203 and the fields that do not meet it. -/

open Sys2Proof Sys2Proof.Machine Sys2Proof.Claims

namespace Sys2Proof.Machine

/-! ### A field and its window as bits (45_bitslice.md R201, R202) -/

/-- The field is the window's value without the bits below it and above it. -/
theorem sliceValue_eq (f : FieldsX) (v : Nat) : sliceValue f v = v / 2 ^ f.lsb.toNat % 2 ^ f.wid.toNat := by
  rw [sliceValue, mask, Nat.and_two_pow_sub_one_eq_mod, Nat.shiftRight_eq_div_pow]

theorem sliceValue_lt (f : FieldsX) (v : Nat) : sliceValue f v < 2 ^ f.wid.toNat := by
  rw [sliceValue_eq]
  exact Nat.mod_lt _ (Nat.two_pow_pos _)

theorem testBit_sliceValue (f : FieldsX) (v j : Nat) :
    (sliceValue f v).testBit j = (decide (j < f.wid.toNat) && v.testBit (f.lsb.toNat + j)) := by
  rw [sliceValue_eq, Nat.testBit_mod_two_pow, Nat.testBit_div_two_pow, Nat.add_comm]

/-- Fields of one position agree when the two windows agree on the field's bits. -/
theorem sliceValue_congr {f : FieldsX} {v w : Nat}
    (h : ∀ j, f.lsb.toNat ≤ j → j < f.lsb.toNat + f.wid.toNat → v.testBit j = w.testBit j) :
    sliceValue f v = sliceValue f w := by
  refine Nat.eq_of_testBit_eq fun j => ?_
  rw [testBit_sliceValue, testBit_sliceValue]
  by_cases hj : j < f.wid.toNat
  · rw [h _ (by omega) (by omega)]
  · simp [hj]

section
variable {f : FieldsX} {v d : Nat} (hv : v < 2 ^ (8 * f.nb.toNat))
include hv

/-- Inside the field the shifted DIN has its bits and the mask clears those of the window; outside it DIN is too short
to have any, and the mask keeps those of the window. -/
theorem testBit_insertValue (hd : d < 2 ^ f.wid.toNat) (j : Nat) :
    (insertValue f v d).testBit j =
      if f.lsb.toNat ≤ j ∧ j < f.lsb.toNat + f.wid.toNat then d.testBit (j - f.lsb.toNat) else v.testBit j := by
  have hwindow : (v.testBit j && decide (j < 8 * f.nb.toNat)) = v.testBit j := by
    rw [Bool.and_comm, ← Nat.testBit_mod_two_pow, Nat.mod_eq_of_lt hv]
  have hdin (h : f.wid.toNat ≤ j - f.lsb.toNat) : d.testBit (j - f.lsb.toNat) = false :=
    Nat.testBit_lt_two_pow (hd.trans_le (Nat.pow_le_pow_right (by decide) h))
  simp only [insertValue, mask, Nat.testBit_or, Nat.testBit_and, Nat.testBit_xor, Nat.testBit_shiftLeft,
    Nat.testBit_two_pow_sub_one]
  split
  case isTrue hin =>
    have hmask : j - f.lsb.toNat < f.wid.toNat := by omega
    rw [decide_eq_true hin.1, decide_eq_true hmask, Bool.true_and, Bool.true_and, Bool.and_xor_distrib_left, hwindow,
      Bool.and_true, Bool.xor_self, Bool.false_or]
  case isFalse hout =>
    rcases Nat.lt_or_ge j f.lsb.toNat with hbelow | hfrom
    · simp [hbelow.not_ge, hwindow]
    · have habove : f.wid.toNat ≤ j - f.lsb.toNat := by omega
      simp [hdin habove, habove.not_gt, hwindow]

/-- Inserting the field that the window holds changes no bit. -/
theorem insertValue_sliceValue : insertValue f v (sliceValue f v) = v := by
  refine Nat.eq_of_testBit_eq fun j => ?_
  rw [testBit_insertValue hv (sliceValue_lt f v)]
  split
  case isTrue hin =>
    rw [testBit_sliceValue, decide_eq_true (by omega), Bool.true_and, Nat.add_sub_cancel' hin.1]
  case isFalse => rfl

/-- The field inserted is the field read back. -/
theorem sliceValue_insertValue (hd : d < 2 ^ f.wid.toNat) : sliceValue f (insertValue f v d) = d := by
  refine Nat.eq_of_testBit_eq fun j => ?_
  rw [testBit_sliceValue, testBit_insertValue hv hd]
  by_cases hj : j < f.wid.toNat
  · rw [if_pos (by omega), decide_eq_true hj, Bool.true_and, Nat.add_sub_cancel_left]
  · rw [decide_eq_false hj, Bool.false_and,
      Nat.testBit_lt_two_pow (hd.trans_le (Nat.pow_le_pow_right (by decide) (Nat.le_of_not_lt hj)))]

/-- A field that does not meet the one inserted is read as before. -/
theorem sliceValue_insertValue_of_disjoint (hd : d < 2 ^ f.wid.toNat) {g : FieldsX}
    (hdisjoint : g.lsb.toNat + g.wid.toNat ≤ f.lsb.toNat ∨ f.lsb.toNat + f.wid.toNat ≤ g.lsb.toNat) :
    sliceValue g (insertValue f v d) = sliceValue g v :=
  sliceValue_congr fun j _ _ => by rw [testBit_insertValue hv hd, if_neg (by omega)]

end

/-! ### SLICE and INSERT, end by end -/

section
variable {f : FieldsX} {s : State}

theorem exec_slice_of_inside (row : rowSlice f = true) (habs : f.abs = false)
    (hframe : f.off.toNat + f.nb.toNat ≤ s.flen.val) : exec (.slice f) s = .next (succeed (latchSlice f s)) :=
  congrArg Host.Outcome.next (readCommand_of_inside row _ _ s habs ((insideFrame_iff _ _ _).mpr hframe))

theorem exec_slice_of_absent (row : rowSlice f = true) (habs : f.abs = true) :
    exec (.slice f) s = .next (raise .absent (clearAcc s)) :=
  congrArg Host.Outcome.next (readCommand_of_absent row _ _ s habs)

theorem exec_slice_of_outside (row : rowSlice f = true) (habs : f.abs = false)
    (hframe : s.flen.val < f.off.toNat + f.nb.toNat) :
    exec (.slice f) s = .next (raise .truncated (voidVerdict (clearAcc s))) :=
  congrArg Host.Outcome.next (readCommand_of_outside row _ _ s habs (decide_eq_false hframe.not_ge))

theorem exec_insert_of_inside (row : rowInsert f = true) (hvalue : s.din.toNat < 2 ^ f.wid.toNat)
    (hframe : f.off.toNat + f.nb.toNat ≤ s.flen.val) :
    exec (.insert f) s = .next (succeed (voidVerdict (storeField f s))) :=
  congrArg Host.Outcome.next
    (writeCommand_of_inside row (decide_eq_true hvalue) ((insideFrame_iff _ _ _).mpr hframe) _ s)

theorem exec_insert_of_outside (row : rowInsert f = true) (hvalue : s.din.toNat < 2 ^ f.wid.toNat)
    (hframe : s.flen.val < f.off.toNat + f.nb.toNat) : exec (.insert f) s = .next (raise .truncated s) :=
  congrArg Host.Outcome.next
    (writeCommand_of_outside row (decide_eq_true hvalue) (decide_eq_false hframe.not_ge) _ s)

theorem exec_insert_of_badValue (row : rowInsert f = true) (hvalue : 2 ^ f.wid.toNat ≤ s.din.toNat) :
    exec (.insert f) s = .next (raise .badOperand s) :=
  congrArg Host.Outcome.next (writeCommand_of_badValue row (decide_eq_false hvalue.not_gt) _ _ s)

end

/-! ### What SLICE latches and INSERT stores -/

theorem memRead_lt (s : State) (o n : Nat) : memRead s o n < 2 ^ (8 * n) := beValue_lt s o n

section
variable (f : FieldsX) (s : State)

theorem latchSlice_acc :
    (latchSlice f s).acc = BitVec.ofNat 48 (sliceValue f (memRead s f.off.toNat f.nb.toNat)) := rfl

/-- ACC after SLICE is the field, not cut. -/
theorem latchSlice_acc_toNat (hwid : f.wid.toNat ≤ 48) :
    (latchSlice f s).acc.toNat = sliceValue f (memRead s f.off.toNat f.nb.toNat) := by
  have hfits := (sliceValue_lt f (memRead s f.off.toNat f.nb.toNat)).trans_le (Nat.pow_le_pow_right (by decide) hwid)
  rw [latchSlice_acc, BitVec.toNat_ofNat, Nat.mod_eq_of_lt hfits]

theorem storeField_eq :
    storeField f s = memWrite s f.off.toNat f.nb.toNat
      (insertValue f (memRead s f.off.toNat f.nb.toNat) s.din.toNat) := rfl

theorem storeField_fbByte_of_outside {a : Nat} (ha : a < f.off.toNat ∨ f.off.toNat + f.nb.toNat ≤ a) :
    (storeField f s).fbByte a = s.fbByte a := by
  rw [storeField_eq, memWrite_fbByte, if_neg (by omega)]

end

/-- INSERT of the field that its window holds changes no byte. -/
theorem storeField_fbByte_of_same {f : FieldsX} {s : State}
    (hvalue : s.din.toNat = sliceValue f (memRead s f.off.toNat f.nb.toNat)) (a : Nat) :
    (storeField f s).fbByte a = s.fbByte a := by
  rw [storeField_eq, hvalue, insertValue_sliceValue (memRead_lt s _ _), memWrite_memRead_fbByte]

/-- The window that INSERT leaves holds the value INSERT stored, not cut. -/
theorem memRead_inserted {f : FieldsX} {s : State} (row : rowInsert f = true)
    (hvalue : s.din.toNat < 2 ^ f.wid.toNat) :
    memRead (succeed (voidVerdict (storeField f s))) f.off.toNat f.nb.toNat =
      insertValue f (memRead s f.off.toNat f.nb.toNat) s.din.toNat :=
  calc memRead (succeed (voidVerdict (storeField f s))) f.off.toNat f.nb.toNat
    _ = memRead (storeField f s) f.off.toNat f.nb.toNat := beValue_congr fun _ _ _ => rfl
    _ = _ % 2 ^ (8 * f.nb.toNat) := memRead_memWrite s _ _ _
    _ = _ := Nat.mod_eq_of_lt (insertValue_lt row (memRead_lt s _ _) hvalue)

end Sys2Proof.Machine

namespace Sys2Proof.Claims

/-- Settles O25: the four ends of SLICE, its field by `sliceValue_eq`. -/
theorem sliceRule : Obligations.SliceRule := by
  refine fun f s => ⟨fun hrow habs hframe => ?latch, fun hrow habs => ?absent, fun hrow habs hframe => ?truncated,
    fun hrow => ?badOperand⟩
  case latch =>
    rw [bigEndianSum_eq_beValue, ← sliceValue_eq]
    exact exec_slice_of_inside ((rowSlice_iff f).mpr hrow) habs hframe
  case absent => exact exec_slice_of_absent ((rowSlice_iff f).mpr hrow) habs
  case truncated => exact exec_slice_of_outside ((rowSlice_iff f).mpr hrow) habs hframe
  case badOperand => exact exec_of_illFormed s (Bool.eq_false_iff.mpr (mt (rowSlice_iff f).mp hrow))

/-- Settles O29: the four ends of INSERT, its bits by `testBit_insertValue`. -/
theorem insertRule : Obligations.InsertRule := by
  refine fun f s => ⟨fun hrow hvalue hframe => ?store, fun hrow hvalue => ?badValue,
    fun hrow hvalue hframe => ?truncated, fun hrow => ?badOperand⟩
  case store =>
    have row := (rowInsert_iff f).mpr hrow
    refine ⟨_, exec_insert_of_inside row hvalue hframe, rfl, fun j _ => ?bits,
      fun _ ha => storeField_fbByte_of_outside f s ha⟩
    rw [bigEndianSum_eq_beValue, bigEndianSum_eq_beValue, ← testBit_insertValue (beValue_lt s _ _) hvalue]
    exact congrArg (Nat.testBit · j) (memRead_inserted row hvalue)
  case badValue => exact exec_insert_of_badValue ((rowInsert_iff f).mpr hrow) hvalue
  case truncated => exact exec_insert_of_outside ((rowInsert_iff f).mpr hrow) hvalue hframe
  case badOperand => exact exec_of_illFormed s (Bool.eq_false_iff.mpr (mt (rowInsert_iff f).mp hrow))

/-- Settles O37: SLICE and LDIN give INSERT the field its window holds (`storeField_fbByte_of_same`); INSERT gives
SLICE the field in DIN (`sliceValue_insertValue`) and every disjoint field as it was
(`sliceValue_insertValue_of_disjoint`). -/
theorem bitFieldRoundTrip : Obligations.BitFieldRoundTrip := by
  refine ⟨fun s f hrow hframe => ?bytes, fun s f hrow hframe hvalue => ?value⟩
  case bytes =>
    have ⟨hslice, habs⟩ := hrow
    have ⟨_, ⟨_, hwid⟩, _⟩ := hslice
    have hacc := latchSlice_acc_toNat f s hwid
    refine ⟨_, _, _, exec_slice_of_inside ((rowSlice_iff f).mpr hslice) habs hframe, exec_ldin_of_row rfl,
      exec_insert_of_inside ((rowInsert_iff f).mpr hrow) (hacc.trans_lt (sliceValue_lt f _)) hframe, rfl, fun a => ?_⟩
    rw [succeed_fbByte, voidVerdict_fbByte]
    refine storeField_fbByte_of_same (hacc.trans (congrArg (sliceValue f) ?_)) a
    exact beValue_congr fun _ _ _ => rfl
  case value =>
    have ⟨hslice, habs⟩ := hrow
    have ⟨_, ⟨_, hwid⟩, _⟩ := hslice
    have hread := memRead_inserted ((rowInsert_iff f).mpr hrow) hvalue
    have hwindow := memRead_lt s f.off.toNat f.nb.toNat
    refine ⟨_, _, exec_insert_of_inside ((rowInsert_iff f).mpr hrow) hvalue hframe,
      exec_slice_of_inside ((rowSlice_iff f).mpr hslice) habs hframe, rfl, BitVec.eq_of_toNat_eq ?same,
      fun lsb wid hother hdisjoint => ?disjoint⟩
    case same => rw [succeed_acc, latchSlice_acc_toNat f _ hwid, hread, sliceValue_insertValue hwindow hvalue]
    case disjoint =>
      have hrowOther := (rowSlice_iff _).mpr hother.1
      refine ⟨_, _, exec_slice_of_inside hrowOther habs hframe, exec_slice_of_inside hrowOther habs hframe, ?_⟩
      rw [succeed_acc, succeed_acc, latchSlice_acc, latchSlice_acc, hread,
        sliceValue_insertValue_of_disjoint hwindow hvalue hdisjoint]

end Sys2Proof.Claims
end

section
/-! SUPPORT. The rules of 60_exceptions.md over all commands and the whole port: every state has a next state (R220,
R234), OPSTAT is written by every command and read by none (R220), and the codes a command can end with and what each
failure clears (R221, R222), from the ways a command can end. -/

open Sys2Proof Sys2Proof.Machine Sys2Proof.Claims

namespace Sys2Proof.Machine

/-! ### OPSTAT is written by every command and read by none -/

section
variable (x : Status) (s : State)

theorem memRead_raise (o n : Nat) : memRead (raise x s) o n = memRead s o n := beValue_congr fun _ _ _ => rfl

theorem latchSlice_raise (f : FieldsX) : latchSlice f (raise x s) = raise x (latchSlice f s) := by
  rw [latchSlice, memRead_raise]; rfl

theorem latchInteger_raise (f : FieldsX) : latchInteger f (raise x s) = raise x (latchInteger f s) := by
  rw [latchInteger, memRead_raise]; rfl

theorem storeField_raise (f : FieldsX) : storeField f (raise x s) = raise x (storeField f s) := by
  rw [storeField, memRead_raise]; rfl

/-- No command reads OPSTAT and each overwrites it, so a code put there before the command is lost (60_exceptions.md
R220): by evaluation, but for the three commands that read a whole window, which need `memRead_raise`. -/
theorem exec_raise (i : Instr) : exec i (raise x s) = exec i s := by
  cases i with
  | slice f => simp only [exec, execSlice, readCommand, latchSlice_raise]; rfl
  | unpack f => simp only [exec, execUnpack, readCommand, latchInteger_raise]; rfl
  | insert f => simp only [exec, execInsert, writeCommand, storeField_raise]; rfl
  | _ => rfl

end

/-- The eight codes of 60_exceptions.md R222 are all there are (log entry 10). -/
theorem mem_allStatuses (e : Status) :
    e ∈ [Status.ok, .framing, .unknownType, .truncated, .absent, .badOperand, .overflow, .illegalOp] := by
  cases e <;> decide

/-! ### Every state steps -/

/-- On an interaction by `step_takePort_cons`, and with nothing on the port the state is its own successor
(60_exceptions.md R220, R234). -/
theorem step_total (s : State) : ∃ t, step s = .next t := by
  cases hport : s.port with
  | nil => exact ⟨s, step_of_port_nil hport⟩
  | cons op rest =>
    obtain ⟨t, hstep⟩ := step_takePort_cons op s
    have hs : takePort (op :: rest) s = s := hport ▸ rfl
    exact ⟨takePort rest t, hs ▸ hstep rest⟩

/-! ### The codes a command can end with -/

/-- Every command but the reserved opcodes has BAD_OPERAND in its row (60_exceptions.md R222). -/
theorem badOperand_mem_statusesOf {i : Instr} (legal : i.isReserved = false) : .badOperand ∈ statusesOf i := by
  cases i with
  | reservedE | reservedF => cases legal
  | _ => exact .tail _ (.head _)

section
variable {i : Instr} {s t : State} (h : exec i s = .next t)
include h

theorem exec_opstat_mem_statusesOf : t.opstat ∈ statusesOf i := by
  cases exec_ends h with
  | badOperand i legal => exact badOperand_mem_statusesOf legal
  | dispatchFails f c code => obtain rfl | rfl | rfl := code <;> simp [statusesOf, dispatchFail]
  | _ => simp [statusesOf]

/-! ### What each failure clears, code by code

The ways of ending with another code contradict the code; DISPATCH's failures do so for each of their three codes. -/

/-- 60_exceptions.md R221 (a). -/
theorem exec_eq_of_illegalOp_or_badOperand (hcode : t.opstat = .illegalOp ∨ t.opstat = .badOperand) :
    t = { s with opstat := t.opstat } := by
  cases exec_ends h with
  | illegalE | illegalF | badOperand => rfl
  | dispatchFails f c code => obtain rfl | rfl | rfl := code <;> nomatch hcode
  | _ => nomatch hcode

/-- 60_exceptions.md R221 (b). -/
theorem exec_of_absent (hcode : t.opstat = .absent) :
    readsField i = true ∧ t = failed .absent (groupCleared i s) := by
  cases exec_ends h with
  | sliceAbsent | unpackAbsent | nsplitAbsent | tdecAbsent => exact ⟨rfl, rfl⟩
  | dispatchFails f c code => obtain rfl | rfl | rfl := code <;> nomatch hcode
  | _ => nomatch hcode

/-- 60_exceptions.md R221 (c). -/
theorem exec_read_of_truncated (hcode : t.opstat = .truncated) (hreads : readsField i = true) :
    t = failed .truncated { groupCleared i s with fvalid := false } := by
  cases exec_ends h with
  | sliceTruncated | unpackTruncated | nsplitTruncated | tdecTruncated => rfl
  | insertTruncated | packTruncated | npackTruncated | tencTruncated | finalTruncated | dispatchFails => nomatch hreads
  | _ => nomatch hcode

/-- 60_exceptions.md R221 (d). -/
theorem exec_write_of_truncated (hcode : t.opstat = .truncated) (hreads : readsField i = false)
    (hdispatch : isDispatch i = false) : t = failed .truncated s := by
  cases exec_ends h with
  | insertTruncated | packTruncated | npackTruncated | tencTruncated | finalTruncated => rfl
  | sliceTruncated | unpackTruncated | nsplitTruncated | tdecTruncated => nomatch hreads
  | dispatchFails => nomatch hdispatch
  | _ => nomatch hcode

/-- 60_exceptions.md R221 (e). -/
theorem exec_dispatch_of_failed
    (hcode : t.opstat = .framing ∨ t.opstat = .unknownType ∨ (t.opstat = .truncated ∧ isDispatch i = true)) :
    isDispatch i = true ∧ t = failed t.opstat (headerCleared s) := by
  cases exec_ends h with
  | dispatchFails => exact ⟨rfl, rfl⟩
  | _ => nomatch hcode

/-- 60_exceptions.md R221 (f). -/
theorem exec_of_overflow (hcode : t.opstat = .overflow) :
    isPush i = true ∧ t = { s with ovf := true, fvalid := false, opstat := .overflow } := by
  cases exec_ends h with
  | pushFull => exact ⟨rfl, rfl⟩
  | dispatchFails f c code => obtain rfl | rfl | rfl := code <;> nomatch hcode
  | _ => nomatch hcode

end

end Sys2Proof.Machine

namespace Sys2Proof.Claims

/-- Settles O8: `exec_total` gives the next state, and by `exec_raise` it is the same whatever OPSTAT held. -/
theorem everyWordHasOneOutcome : Obligations.EveryWordHasOneOutcome := by
  intro w s
  obtain ⟨t, h⟩ := exec_total (decode w) s
  exact ⟨t, h, mem_allStatuses t.opstat, fun x => (exec_raise x s (decode w)).trans h⟩

/-- Settles O9: `step_total`. -/
theorem everyStateSteps : Obligations.EveryStateSteps := step_total

/-- Settles O12: the arm of `step` for an empty port. -/
theorem idlePortHoldsTheState : Obligations.IdlePortHoldsTheState := fun _ => step_of_port_nil

/-- Settles O39: `exec_opstat_mem_statusesOf`, over the ways a command can end. -/
theorem eachCommandRaisesOnlyItsCodes : Obligations.EachCommandRaisesOnlyItsCodes := fun _ _ _ =>
  exec_opstat_mem_statusesOf

/-- Settles O40: one lemma per clause of R221. -/
theorem failureClearsAreExact : Obligations.FailureClearsAreExact := fun _ _ _ h =>
  ⟨exec_eq_of_illegalOp_or_badOperand h, exec_of_absent h, exec_read_of_truncated h, exec_write_of_truncated h,
    exec_dispatch_of_failed h, exec_of_overflow h⟩

end Sys2Proof.Claims
end

section
/-! SUPPORT. The observable state over an empty frame: what RESET and CLR leave is the reset state as far as RDREG and
RDFB can tell (70_reset_and_hazards.md R250, R251). -/

open Sys2Proof Sys2Proof.Machine Sys2Proof.Claims

namespace Sys2Proof.Machine

/-- The converse of `noRegisterIsHidden`: RDREG is a function of the registers alone (10_state.md R47). -/
theorem sameRegisters.rdReg_eq {s t : State} (h : sameRegisters s t) (a : BitVec 5) : rdReg s a = rdReg t a :=
  (congrArg (rdReg · a) h).symm

/-- Over an empty frame no byte of FB is observable, so the registers are all there is to compare (10_state.md R42,
R43). -/
theorem sameRegisters.sameObservable_of_empty {s t : State} (h : sameRegisters s t) (empty : s.flen = 0) :
    sameObservable s t :=
  have hlength : s.flen = t.flen := (congrArg State.flen h).symm
  ⟨h, hlength, fun a ha => absurd ha (by simp [empty])⟩

/-- Over an empty frame RDFB gives the free value at every index (10_state.md R43). -/
theorem rdFb_of_empty {s : State} (empty : s.flen = 0) (i : BitVec 8) :
    rdFb s i = Config.unspecifiedByte s.draw i.toNat :=
  if_neg (by simp [empty])

/-- The Reset column of the register map (10_state.md R39), at each of the 32 addresses. -/
theorem rdReg_reset : ∀ a : BitVec 5, rdReg State.reset a = 0 := by decide

theorem sameRegisters_resetPort (s : State) : sameRegisters (resetPort s) State.reset := rfl

theorem sameRegisters_clearRegisters (s : State) : sameRegisters (clearRegisters s) State.reset := rfl

theorem sameRegisters.freshDraw {s t : State} (h : sameRegisters s t) : sameRegisters (freshDraw s) t :=
  congrArg Machine.freshDraw h

end Sys2Proof.Machine

namespace Sys2Proof.Claims

/-- Settles O19: CLR writes the Reset column, OPSTAT's included, and over the empty frame it leaves that decides all
that is observable. -/
theorem clrEqualsReset : Obligations.ClrEqualsReset := fun s =>
  have hrun : exec (.clr zeroD) s = .next (clearRegisters s) := (clrRule zeroD s).1 rfl
  ⟨clearRegisters s, hrun, (sameRegisters_clearRegisters s).sameObservable_of_empty rfl⟩

/-- Settles O11: the state RESET leaves has the registers of `State.reset`, so RDREG reads it as that, and an empty
frame. -/
theorem resetLeavesTheResetColumn : Obligations.ResetLeavesTheResetColumn := by
  intro s rest hport
  have hregs := (sameRegisters_resetPort (takePort rest s)).freshDraw
  exact ⟨freshDraw (resetPort (takePort rest s)), step_of_port_reset hport,
    fun a => (hregs.rdReg_eq a).trans (rdReg_reset a),
    rfl, rfl, rfl, rfl, rfl, rfl, rfl, rfl, rfl, rfl, rfl, rfl, rfl, rfl, rfl, rfl, rfl, rfl, rfl, rfl, rfl, rfl,
    rdFb_of_empty rfl⟩

/-- Settles O50: the reset registers over the FB that no command wrote, which is canonical. -/
theorem resetMeetsTheInvariant : Obligations.ResetMeetsTheInvariant := inv_of_resetRegisters Memory.wf_reset [] 0

end Sys2Proof.Claims
end
